-- ==== Sys2Proof/Word.lean ====
section
/-! DEFINITION. The words of the DC412's byte streams: bytes of frames, commands and records, and the 16-bit and
32-bit quantities packed into them (chapter 11: most significant byte first). -/

namespace Sys2Proof

/-- One character of the loop link or one byte of the supervisory port. -/
abbrev Byte := BitVec 8

/-- A 16-bit parameter or field, as its two bytes carry it. -/
abbrev Word16 := BitVec 16

/-- A 32-bit quantity: the capture counter (R32). -/
abbrev Word32 := BitVec 32

end Sys2Proof
end

