-- ==== Sys2Proof/Syntax.lean ====
section
/-! DEFINITION. The commands of the DC412: one constructor for each row of spec/opcode_table.json, in the table's
order, with the operands the outside supplies (a parameter, a converted code, a character, the level of a pin). -/

namespace Sys2Proof

/-- What the character that ends a collection with a format fault was (R50). -/
inductive RxFault where
  /-- a good character in the place of the length, with this value -/
  | length (value : Byte)
  /-- a character whose stop bit read dominant -/
  | framing
  deriving DecidableEq, Repr

/-- The operations and events of the DC412. -/
inductive Instr where
  /-- HARD_RESET (R7): power-on, or RESETN going low. -/
  | hardReset
  /-- CONFIGURE (R4): parameter identifier of Table 11.7, and the two value bytes. -/
  | configure (id : Byte) (value : Word16)
  /-- START (R6). -/
  | start
  /-- SET_REQUEST (R139): the valve position wanted, unsigned. -/
  | setRequest (value : Word16)
  /-- SET_AVAILABLE (R170): 0 clears, 1 sets. -/
  | setAvailable (value : Byte)
  /-- SET_TARGET (R5): m_target, signed. -/
  | setTarget (value : Word16)
  /-- READ_STATION (R171). -/
  | readStation
  /-- READ_FIGURES (R172). -/
  | readFigures
  /-- LIST_PEERS (R83). -/
  | listPeers
  /-- READ_PEER (R83): the address named. -/
  | readPeer (address : Byte)
  /-- READ_COUNTERS (R177): the clear option. -/
  | readCounters (option : Byte)
  /-- ACK_LATCHES (R174): the latch mask of Table 11.10. -/
  | ackLatches (mask : Byte)
  /-- HOLD (R95). -/
  | hold
  /-- RELEASE (R96). -/
  | release
  /-- RESEEK (R164). -/
  | reseek
  /-- LEAVE (R15). -/
  | leave
  /-- REJOIN (R18). -/
  | rejoin
  /-- RESTART (R19). -/
  | restart
  /-- UNKNOWN_COMMAND (R168): the end of a select period that carried these levels of SDI, one for each clock. -/
  | unknownCommand (bits : List Bool)
  /-- CONVERSION_COMPLETION (R21): the 12-bit result. -/
  | conversionCompletion (code : BitVec 12)
  /-- CHANNEL_ABSENT (R28): the conversion completion of this channel, with this fault code, at which the fault-hold
  count reaches 300. -/
  | channelAbsent (channel : Fin 4) (code : BitVec 12)
  /-- CHANNEL_RECOVERED (R29): the conversion completion of this channel, with this valid code, at which the recovery
  count reaches 10. -/
  | channelRecovered (channel : Fin 4) (code : BitVec 12)
  /-- FLOW_CAPTURE (R35): an accepted rising edge of FLOWIN, with the counter value it carries (R33). -/
  | flowCapture (counter : Word32)
  /-- FLOW_TIMEOUT (R36). -/
  | flowTimeout
  /-- QUIET_TIME_IDLE (R50). -/
  | quietTimeIdle
  /-- RX_FORMAT_FAULT (R50). -/
  | rxFormatFault (fault : RxFault)
  /-- FRAME_COMPLETE (R51): the second check character completes on the line. -/
  | frameComplete (lastCharacter : Byte)
  /-- ACCESS_GAP_COMPLETE (R56). -/
  | accessGapComplete
  /-- COLLISION (R58). -/
  | collision
  /-- FRAME_ABANDONED (R58): the collision at which the attempt count reaches 6. -/
  | frameAbandoned
  /-- FRAME_SENT (R59). -/
  | frameSent
  /-- BOUNDARY (R88). -/
  | boundary
  /-- COMPUTATION_COMPLETION (R93). -/
  | computationCompletion
  /-- ENTER_FALLBACK (R133): the completion at which the holding count reaches stale_limit. -/
  | enterFallback
  /-- ENTER_ACTIVE (R11): the completion at which the listen count or the mute count reaches 0. -/
  | enterActive
  /-- ENTRY_STALE (R79): the boundary at which the entry for this address becomes STALE. -/
  | entryStale (address : Byte)
  /-- ENTRY_REMOVED (R80): the boundary at which the entry for this address is removed. -/
  | entryRemoved (address : Byte)
  /-- PULSE_END (R160). -/
  | pulseEnd
  /-- DWELL_END (R161). -/
  | dwellEnd
  /-- SEEK_END (R163). -/
  | seekEnd
  /-- CHARACTER_COMPLETED (R49): a good character and its value. -/
  | characterCompleted (value : Byte)
  /-- LINE_BUSY (R40): LRX reads dominant. -/
  | lineBusy
  /-- FLOWIN_LOW_ACCEPTED (R33). -/
  | flowinLowAccepted
  /-- SELECT_PERIOD_BEGIN (R167): SSN goes low. -/
  | selectPeriodBegin
  /-- END_OF_HARD_RESET (R1): RESETN returns high, or the power-on reset ends, with these levels at ADDR[4:0], ROLE,
  FLOWIN and SSN. -/
  | endOfHardReset (addrCode : BitVec 5) (roleHigh flowinHigh ssnHigh : Bool)
  deriving DecidableEq, Repr

end Sys2Proof
end

