-- ==== Sys2Proof/Decode.lean ====
section
/-! DEFINITION. The reading of a table word as a command. spec/opcode_table.json gives no row any bits, so no word spells
a command (assumption log 24). The bytes a host shifts into the supervisory port are read by
Sys2Proof.Machine.portEvent, and written by Sys2Proof.Machine.encodeCommand. -/

namespace Sys2Proof

/-- The command a word spells by the table's bits: none, for the table gives none. -/
def decodeTableWord (_nbits _w : Nat) : Option Instr := none

end Sys2Proof
end

