-- ==== Sys2Proof/Config.lean ====
section
/-! DEFINITION. What the manual leaves open, as constants without a body: nothing in Lean can evaluate them or prove a
value of them, so whatever is proved of the model holds whatever they are. -/

namespace Sys2Proof.Config

/-- FREE VALUE. Which of several timed events that fall due in one clock period is taken first. The manual gives the
outcome of either order and no rule for the choice (R13, R17, R20, R97, R98). Applied to the model's own counter
`State.ties`. Assumption log 3. -/
opaque tieBreak : Nat → Nat

end Sys2Proof.Config
end

