-- ==== Sys2Proof/Machine/Operands.lean ====
section
/-! DEFINITION. The operand forms of the DC412: integer conventions (section 0.6, R102), the classes of a raw code
(R22), the numbering of bytes and bits on the link and at the port (R41, R43, R167), and the reading of a select
period as a command (R168, R180). -/

namespace Sys2Proof.Machine

/-! ### Integer conventions (section 0.6, R102) -/

/-- Saturation to a signed 16-bit result. -/
def sat16 (x : Int) : Int := max (-32768) (min 32767 x)

/-- Saturation to an unsigned 16-bit result. -/
def satU16 (x : Int) : Nat := (min 65535 x).toNat

/-- "Clamped to a..b". -/
def clamp (a b x : Int) : Int := if x < a then a else if b < x then b else x

/-- Arithmetic shift right by n: division by 2^n, rounding toward minus infinity. -/
def asr (x : Int) (n : Nat) : Int := x / (2 ^ n : Int)

/-- Scaling division: to nearest, a half toward plus infinity. -/
def roundDiv (a : Int) (b : Nat) : Int := (2 * a + b) / (2 * b : Int)

/-- A 16-bit event count after one more event (R176). -/
def satCount (n : Nat) : Nat := min 65535 (n + 1)

/-! ### Times, in periods of the 8 MHz clock on XIN (R85, R136, section 9.1) -/

/-- One microsecond. -/
def usClocks : Nat := 8

/-- One millisecond. -/
def msClocks : Nat := 8000

/-- One conversion, 2.5 ms (R21). -/
def conversionClocks : Nat := 20000

/-- The clock periods it takes for n bit times of the link to have passed: one bit time at 38,400 bit/s is 625/3
periods (R41). -/
def bitClocks (n : Nat) : Nat := (n * 625 + 2) / 3

/-- 2 C, the quiet time at which the line is idle for the receiver (R40). -/
def idleClocks : Nat := bitClocks 20

/-- The access gap (3 + k) C (R56). -/
def gapClocks (k : Nat) : Nat := bitClocks (10 * (3 + k))

/-- One period of the speed PWM, 100 µs (R136). -/
def pwmClocks : Nat := 800

/-! ### Raw codes (R22) -/

/-- The code used for scaling, or none for a code of the fault class (Table 2.2). -/
def scalingCode (code : BitVec 12) : Option Nat :=
  let c := code.toNat
  if c < 576 then none
  else if c < 640 then some 640
  else if c ≤ 3200 then some c
  else if c ≤ 3360 then some 3200
  else none

/-- The sample of a scaling code (R23). -/
def sampleOf (lo hi : Int) (c : Nat) : Int :=
  sat16 (lo + roundDiv (((c : Int) - 640) * (hi - lo)) 2560)

/-! ### Bytes -/

/-- A 16-bit quantity, most significant byte first. Signed quantities are in two's complement. -/
def be16 (x : Int) : List Byte :=
  let w := BitVec.ofInt 16 x
  [w.extractLsb' 8 8, w.extractLsb' 0 8]

/-- A 32-bit quantity, most significant byte first. -/
def be32 (n : Nat) : List Byte :=
  let w := BitVec.ofNat 32 n
  [w.extractLsb' 24 8, w.extractLsb' 16 8, w.extractLsb' 8 8, w.extractLsb' 0 8]

/-- A byte of a small number. -/
def byte (n : Nat) : Byte := BitVec.ofNat 8 n

/-- A flags byte, its flags listed from bit 0. -/
def flagByte : List Bool → Byte
  | [] => 0
  | b :: bs => (flagByte bs <<< 1) ||| (if b then 1 else 0)

/-- The sum of bytes modulo 256 (R168, R169). -/
def byteSum (bs : List Byte) : Byte := bs.foldl (· + ·) 0

/-- The bits of a byte, most significant first (R167; the order in which the CRC takes them, R43). -/
def msbFirst (b : Byte) : List Bool :=
  [b.getLsbD 7, b.getLsbD 6, b.getLsbD 5, b.getLsbD 4, b.getLsbD 3, b.getLsbD 2, b.getLsbD 1, b.getLsbD 0]

/-- The SDI levels of whole bytes, one level for each clock (R167). -/
def bitsOf (bs : List Byte) : List Bool := bs.flatMap msbFirst

/-- The bytes shifted in by a run of clocks: every eight clocks make one byte, most significant bit first, and a final
byte with fewer than eight is discarded (R167). -/
def assembleBytes : List Bool → List Byte
  | b7 :: b6 :: b5 :: b4 :: b3 :: b2 :: b1 :: b0 :: rest =>
    flagByte [b0, b1, b2, b3, b4, b5, b6, b7] :: assembleBytes rest
  | _ => []

/-! ### The check field of a frame (R43) -/

/-- One bit through the CRC-16 of generator x^16 + x^12 + x^5 + 1. -/
def crcBit (crc : Word16) (bit : Bool) : Word16 :=
  if crc.msb == bit then crc <<< 1 else (crc <<< 1) ^^^ 0x1021

/-- The CRC over characters in order, each most significant bit first, from 0xFFFF, with no final inversion. -/
def crc16 (cs : List Byte) : Word16 := (bitsOf cs).foldl crcBit 0xFFFF

/-! ### Characters of the link (R41). A level is true when recessive (high). -/

/-- The ten levels of a character: start bit dominant, eight data bits least significant first, stop bit recessive. -/
def characterLevels (c : Byte) : List Bool :=
  [false, c.getLsbD 0, c.getLsbD 1, c.getLsbD 2, c.getLsbD 3, c.getLsbD 4, c.getLsbD 5, c.getLsbD 6, c.getLsbD 7, true]

/-- What the ten mid-bit samples of a candidate start bit result in (R41). -/
inductive Sampled where
  /-- the middle of the start bit read recessive, or the ten samples are not there: no character -/
  | dropped
  | good (value : Byte)
  | framingFault
  deriving DecidableEq, Repr

/-- The character that ten mid-bit samples result in (R41). -/
def sampleCharacter : List Bool → Sampled
  | [false, d0, d1, d2, d3, d4, d5, d6, d7, stop] =>
    if stop then .good (flagByte [d0, d1, d2, d3, d4, d5, d6, d7]) else .framingFault
  | _ => .dropped

/-- How many bit times before the middle of its stop bit a good character was last read dominant, in half bit times
(R40, R41): a recessive run of n data bits before the stop bit ends 2n + 1 half bit times back. -/
def recessiveTail (c : Byte) : Nat := 2 * ((msbFirst c).takeWhile id).length + 1

/-- The clock periods since a good character was last read dominant, at the middle of its stop bit. -/
def tailClocks (c : Byte) : Nat := recessiveTail c * 625 / 6

/-! ### Statuses and responses (R169, R170, R181) -/

/-- The status of a response. -/
inductive Status where
  | done | retry | format | unknown | role | state | range
  deriving DecidableEq, Repr

/-- The status byte (R181). -/
def Status.code : Status → Byte
  | .done => 0x00
  | .retry => 0x01
  | .format => 0x81
  | .unknown => 0x82
  | .role => 0x83
  | .state => 0x84
  | .range => 0x85

/-! ### Commands at the supervisory port (R168, R180) -/

/-- What a select period carries, by the first three tests of R168. -/
inductive PortEvent where
  /-- no complete byte was shifted in -/
  | nothing
  /-- a command that fails the format, code or parameter count test -/
  | refuse (status : Status)
  /-- a command that passes them -/
  | command (c : Instr)
  deriving DecidableEq, Repr

/-- The command of a code and its parameter bytes: tests 2 and 3 of R168 with Table 11.6, and the parameters as R180
reads them. -/
def commandOf (code : Byte) (params : List Byte) : PortEvent :=
  if code = 0x10 then
    match params with
    | [id, h, l] => .command (.configure id (h ++ l : BitVec (8 + 8)))
    | _ => .refuse .format
  else if code = 0x11 then if params = [] then .command .start else .refuse .format
  else if code = 0x20 then
    match params with
    | [h, l] => .command (.setRequest (h ++ l : BitVec (8 + 8)))
    | _ => .refuse .format
  else if code = 0x21 then
    match params with
    | [v] => .command (.setAvailable v)
    | _ => .refuse .format
  else if code = 0x22 then
    match params with
    | [h, l] => .command (.setTarget (h ++ l : BitVec (8 + 8)))
    | _ => .refuse .format
  else if code = 0x30 then if params = [] then .command .readStation else .refuse .format
  else if code = 0x31 then if params = [] then .command .readFigures else .refuse .format
  else if code = 0x32 then if params = [] then .command .listPeers else .refuse .format
  else if code = 0x33 then
    match params with
    | [a] => .command (.readPeer a)
    | _ => .refuse .format
  else if code = 0x34 then
    match params with
    | [o] => .command (.readCounters o)
    | _ => .refuse .format
  else if code = 0x35 then
    match params with
    | [m] => .command (.ackLatches m)
    | _ => .refuse .format
  else if code = 0x40 then if params = [] then .command .hold else .refuse .format
  else if code = 0x41 then if params = [] then .command .release else .refuse .format
  else if code = 0x42 then if params = [] then .command .reseek else .refuse .format
  else if code = 0x50 then if params = [] then .command .leave else .refuse .format
  else if code = 0x51 then if params = [] then .command .rejoin else .refuse .format
  else if code = 0x52 then if params = [] then .command .restart else .refuse .format
  else .refuse .unknown

/-- The command a select period carries, from the bytes shifted in: at least n + 3 bytes whose first n + 3 sum to 0
(test 1 of R168), then the code and the count. Bytes after the check byte are ignored (R167). -/
def portEvent : List Byte → PortEvent
  | [] => .nothing
  | [_] => .refuse .format
  | code :: n :: rest =>
    let body := rest.take (n.toNat + 1)
    if body.length < n.toNat + 1 then .refuse .format
    else if byteSum (code :: n :: body) ≠ 0 then .refuse .format
    else commandOf code (body.take n.toNat)

/-- The code and parameter bytes of a host command (Table 11.6), or none for a row that is no host command. -/
def commandBytes : Instr → Option (Byte × List Byte)
  | .configure id v => some (0x10, [id, v.extractLsb' 8 8, v.extractLsb' 0 8])
  | .start => some (0x11, [])
  | .setRequest v => some (0x20, [v.extractLsb' 8 8, v.extractLsb' 0 8])
  | .setAvailable v => some (0x21, [v])
  | .setTarget v => some (0x22, [v.extractLsb' 8 8, v.extractLsb' 0 8])
  | .readStation => some (0x30, [])
  | .readFigures => some (0x31, [])
  | .listPeers => some (0x32, [])
  | .readPeer a => some (0x33, [a])
  | .readCounters o => some (0x34, [o])
  | .ackLatches m => some (0x35, [m])
  | .hold => some (0x40, [])
  | .release => some (0x41, [])
  | .reseek => some (0x42, [])
  | .leave => some (0x50, [])
  | .rejoin => some (0x51, [])
  | .restart => some (0x52, [])
  | .hardReset | .unknownCommand _ | .conversionCompletion _ | .channelAbsent _ _ | .channelRecovered _ _
  | .flowCapture _ | .flowTimeout | .quietTimeIdle | .rxFormatFault _ | .frameComplete _ | .accessGapComplete
  | .collision | .frameAbandoned | .frameSent | .boundary | .computationCompletion | .enterFallback | .enterActive
  | .entryStale _ | .entryRemoved _ | .pulseEnd | .dwellEnd | .seekEnd | .characterCompleted _ | .lineBusy
  | .flowinLowAccepted | .selectPeriodBegin | .endOfHardReset _ _ _ _ => none

/-- The message of a host command: code, length, parameters and the check byte that makes the whole sum to 0 (R180). -/
def encodeCommand (c : Instr) : Option (List Byte) :=
  (commandBytes c).map fun (code, params) =>
    let head := code :: byte params.length :: params
    head ++ [-byteSum head]

/-! ### Configuration parameters (Tables 1.1 and 11.7) -/

/-- The parameters of the configuration set. -/
inductive Param where
  | cyclePeriod | staleLimit | filterShift | flowVp | flowTimeout | dtDesign
  | chLo (channel : Fin 4) | chHi (channel : Fin 4)
  | mTarget | kp | ki | ks | weight | speedMin | speedMax | ramp | fallbackSpeed | hdrDpMax
  | dpReq | yieldGain | yieldShift | stepMax | relax | capFloor
  | travelTime | deadband | minPulse | dwell
  deriving DecidableEq, Repr

/-- The parameter an identifier names (Table 11.7). -/
def Param.ofId (id : Byte) : Option Param :=
  match id.toNat with
  | 0x01 => some .cyclePeriod
  | 0x02 => some .staleLimit
  | 0x03 => some .filterShift
  | 0x04 => some .flowVp
  | 0x05 => some .flowTimeout
  | 0x06 => some .dtDesign
  | 0x10 => some (.chLo 0)
  | 0x11 => some (.chHi 0)
  | 0x12 => some (.chLo 1)
  | 0x13 => some (.chHi 1)
  | 0x14 => some (.chLo 2)
  | 0x15 => some (.chHi 2)
  | 0x16 => some (.chLo 3)
  | 0x17 => some (.chHi 3)
  | 0x20 => some .mTarget
  | 0x21 => some .kp
  | 0x22 => some .ki
  | 0x23 => some .ks
  | 0x24 => some .weight
  | 0x25 => some .speedMin
  | 0x26 => some .speedMax
  | 0x27 => some .ramp
  | 0x28 => some .fallbackSpeed
  | 0x29 => some .hdrDpMax
  | 0x30 => some .dpReq
  | 0x31 => some .yieldGain
  | 0x32 => some .yieldShift
  | 0x33 => some .stepMax
  | 0x34 => some .relax
  | 0x35 => some .capFloor
  | 0x40 => some .travelTime
  | 0x41 => some .deadband
  | 0x42 => some .minPulse
  | 0x43 => some .dwell
  | _ => none

/-- The value a CONFIGURE gives: signed for ch_lo and ch_hi, unsigned for every other parameter (R180). -/
def Param.valueOf (p : Param) (v : Word16) : Int :=
  match p with
  | .chLo _ | .chHi _ => v.toInt
  | _ => v.toNat

/-- The range of each parameter (Table 1.1). -/
def Param.inRange (p : Param) (x : Int) : Bool :=
  match p with
  | .cyclePeriod => 250 ≤ x && x ≤ 4000 && x % 250 = 0
  | .staleLimit => 2 ≤ x && x ≤ 15
  | .filterShift => 0 ≤ x && x ≤ 7
  | .flowVp => 0 ≤ x && x ≤ 65535
  | .flowTimeout => 1 ≤ x && x ≤ 60
  | .dtDesign => 100 ≤ x && x ≤ 2000
  | .chLo _ | .chHi _ => -32768 ≤ x && x ≤ 32767
  | .mTarget => 0 ≤ x && x ≤ 5000
  | .kp | .ki | .ks | .yieldGain => 0 ≤ x && x ≤ 255
  | .weight => 1 ≤ x && x ≤ 255
  | .speedMin | .speedMax | .fallbackSpeed | .capFloor => 0 ≤ x && x ≤ 10000
  | .ramp | .stepMax | .relax => 1 ≤ x && x ≤ 2000
  | .hdrDpMax => 0 ≤ x && x ≤ 32767
  | .dpReq => 0 ≤ x && x ≤ 5000
  | .yieldShift => 0 ≤ x && x ≤ 15
  | .travelTime => 10 ≤ x && x ≤ 600
  | .deadband => 0 ≤ x && x ≤ 500
  | .minPulse => 50 ≤ x && x ≤ 500
  | .dwell => 200 ≤ x && x ≤ 2000

end Sys2Proof.Machine
end

