-- ==== Sys2Proof/Machine/State.lean ====
section
/-! DEFINITION. The state of the DC412: one structure for each block of section 0.3, the queue of waiting commands, and
the state after a hard reset. Plain data throughout. Timers count periods of the 8 MHz clock on XIN; a length or limit
that the manual gives in ms is held in ms. -/

namespace Sys2Proof.Machine

/-! ### Names the manual gives -/

/-- The station role (R1). -/
inductive Role where
  | plant | customer
  deriving DecidableEq, Repr

/-- The station states (Table 1.3). -/
inductive StationState where
  | config | listen | active | muted | quiet
  deriving DecidableEq, Repr

/-- The channel states (section 2.1). -/
inductive ChannelState where
  | unseeded | valid | faultHold | absent
  deriving DecidableEq, Repr

/-- The states of a peer entry (R79). -/
inductive PeerState where
  | fresh | stale
  deriving DecidableEq, Repr

/-- The pump modes (Table 7.1). -/
inductive PumpMode where
  | stopped | run | holding | fallback | stopping | frozen
  deriving DecidableEq, Repr

/-- The two slots of the transmitter (section 3.4). -/
inductive Slot where
  | report | notice
  deriving DecidableEq, Repr

/-- The directions of a valve pulse (section 9.1). -/
inductive Direction where
  | opening | closing
  deriving DecidableEq, Repr

/-- The kinds of a valve pulse (section 9.1). -/
inductive PulseKind where
  | trim | toEnd | seek
  deriving DecidableEq, Repr

/-- The direction of the pulse that last ended; both after a hard reset (Table 9.1). -/
inductive LastEnd where
  | opening | closing | both
  deriving DecidableEq, Repr

/-- One value for each of the channels ch0..ch3. -/
structure Four (α : Type) where
  c0 : α
  c1 : α
  c2 : α
  c3 : α
  deriving DecidableEq, Repr

/-- The value of one channel. -/
def Four.get {α : Type} (f : Four α) (n : Fin 4) : α :=
  match n with
  | 0 => f.c0
  | 1 => f.c1
  | 2 => f.c2
  | 3 => f.c3

/-- The same values but for one channel. -/
def Four.set {α : Type} (f : Four α) (n : Fin 4) (x : α) : Four α :=
  match n with
  | 0 => { f with c0 := x }
  | 1 => { f with c1 := x }
  | 2 => { f with c2 := x }
  | 3 => { f with c3 := x }

/-- A function of each channel's value. -/
def Four.map {α β : Type} (g : α → β) (f : Four α) : Four β := ⟨g f.c0, g f.c1, g f.c2, g f.c3⟩

/-- The four values in channel order. -/
def Four.toList {α : Type} (f : Four α) : List α := [f.c0, f.c1, f.c2, f.c3]

/-! ### The configuration set (Table 1.1) -/

/-- The span of a channel: ch_lo and ch_hi. -/
structure Span where
  lo : Int
  hi : Int
  deriving DecidableEq, Repr

/-- The configuration set, in the units of Table 1.1. -/
structure ConfigSet where
  cyclePeriod : Nat
  staleLimit : Nat
  span : Four Span
  filterShift : Nat
  flowVp : Nat
  flowTimeout : Nat
  dpReq : Nat
  dtDesign : Nat
  mTarget : Nat
  kp : Nat
  ki : Nat
  ks : Nat
  weight : Nat
  speedMin : Nat
  speedMax : Nat
  ramp : Nat
  fallbackSpeed : Nat
  hdrDpMax : Nat
  yieldGain : Nat
  yieldShift : Nat
  stepMax : Nat
  relax : Nat
  capFloor : Nat
  travelTime : Nat
  deadband : Nat
  minPulse : Nat
  dwell : Nat
  deriving DecidableEq, Repr

/-- The defaults of Table 1.1 (R3). -/
def ConfigSet.defaults : ConfigSet where
  cyclePeriod := 1000
  staleLimit := 3
  span := ⟨⟨0, 16000⟩, ⟨0, 16000⟩, ⟨0, 2500⟩, ⟨0, 2500⟩⟩
  filterShift := 3
  flowVp := 0
  flowTimeout := 10
  dpReq := 800
  dtDesign := 700
  mTarget := 100
  kp := 32
  ki := 16
  ks := 64
  weight := 1
  speedMin := 3000
  speedMax := 10000
  ramp := 200
  fallbackSpeed := 7000
  hdrDpMax := 32767
  yieldGain := 40
  yieldShift := 4
  stepMax := 1000
  relax := 100
  capFloor := 2000
  travelTime := 120
  deadband := 100
  minPulse := 100
  dwell := 500

/-! ### Station Controller (chapter 1) -/

/-- The Station Controller. -/
@[ext]
structure StationController where
  /-- station address (R1) -/
  address : Nat
  /-- station role (R1) -/
  role : Role
  /-- station state (Table 1.3) -/
  state : StationState
  /-- listen count, 0..2 -/
  listenCount : Nat
  /-- mute count, 0..8 -/
  muteCount : Nat
  /-- first-report flag -/
  firstReport : Bool
  /-- the plant's stored availability (R5, R170) -/
  available : Bool
  deriving DecidableEq, Repr

/-! ### Measurement Unit and Flow Capture Unit (chapter 2) -/

/-- A channel record (section 2.1). -/
structure Channel where
  /-- the last conversion result, absent until the first -/
  raw : Option (BitVec 12)
  state : ChannelState
  filtered : Option Int
  faultHold : Nat
  recovery : Nat
  deriving DecidableEq, Repr

/-- A channel record after hard reset (R25). -/
def Channel.unseededRecord : Channel := ⟨none, .unseeded, none, 0, 0⟩

/-- The Measurement Unit. -/
@[ext]
structure MeasurementUnit where
  channels : Four Channel
  /-- the channel whose conversion completes next (R21) -/
  rotation : Fin 4
  /-- clock periods since the last completion, or since the end of the hard reset -/
  timer : Nat
  deriving DecidableEq, Repr

/-- The Flow Capture Unit (section 2.3). -/
@[ext]
structure FlowCaptureUnit where
  /-- capture counter, 1 count per µs, modulo 2^32 (R32) -/
  counter : Word32
  /-- clock periods into the present count, 0..7 -/
  fraction : Nat
  /-- accepted level of FLOWIN, high is true (R33) -/
  accepted : Bool
  /-- previous sample of FLOWIN (R33) -/
  previous : Bool
  lastCapture : Option Word32
  seenEdge : Bool
  /-- µs -/
  lastPeriod : Option Nat
  /-- 0..65535, 0.1 L/s -/
  lastFlow : Nat
  deriving DecidableEq, Repr

/-! ### Frames and the Link Unit (chapter 3) -/

/-- The seven report flags (R46). -/
structure ReportFlags where
  restarted : Bool
  available : Bool
  atLimit : Bool
  starved : Bool
  yielding : Bool
  sensorFault : Bool
  indexNone : Bool
  deriving DecidableEq, Repr

/-- A condition report (R44, R52). -/
structure Report where
  source : Nat
  role : Role
  sequence : Byte
  flags : ReportFlags
  output : Nat
  margin : Option Int
  flow : Option Nat
  deltaT : Option Int
  cap : Option Nat
  weight : Option Nat
  deriving DecidableEq, Repr

/-- A leave notice (R47). -/
structure Notice where
  source : Nat
  role : Role
  sequence : Byte
  deriving DecidableEq, Repr

/-- A frame of either kind, as a decoded frame record (R52). -/
inductive Frame where
  | report (r : Report)
  | notice (n : Notice)
  deriving DecidableEq, Repr

/-- A frame waiting in a slot or in flight, with its attempt count (section 3.4). -/
structure Outgoing where
  frame : Frame
  attempt : Nat
  deriving DecidableEq, Repr

/-- The transmitter states (Table 3.6), with what each holds. -/
inductive Transmitter where
  | idle
  /-- serving one slot's frame: its k, and the clock periods the access gap has run (R56) -/
  | waiting (slot : Slot) (k : Nat) (gap : Nat)
  /-- the frame in flight, and the clock periods since its first bit began -/
  | sending (inFlight : Outgoing) (timer : Nat)
  deriving DecidableEq, Repr

/-- The receiver states (Table 3.4, R48), with what each holds. -/
inductive Receiver where
  | off
  | hunt
  /-- whether the frame is marked own (R53), and the characters collected after the delimiter -/
  | collect (own : Bool) (characters : List Byte)
  | discard
  deriving DecidableEq, Repr

/-- The Link Unit. -/
@[ext]
structure LinkUnit where
  receiver : Receiver
  transmitter : Transmitter
  reportSlot : Option Outgoing
  noticeSlot : Option Outgoing
  /-- own sequence number (R60) -/
  sequence : Byte
  /-- quiet time: clock periods since LRX was last read dominant (R40) -/
  quiet : Nat
  /-- whether the character on the line, or the one that begins next while SENDING, is the station's own (R53) -/
  beganSending : Bool
  deriving DecidableEq, Repr

/-! ### Peer Table and Inbound Queue (chapter 4) -/

/-- A peer entry (Table 4.1). -/
structure Entry where
  address : Nat
  role : Role
  state : PeerState
  age : Nat
  lastSequence : Byte
  flags : ReportFlags
  output : Nat
  margin : Option Int
  flow : Option Nat
  deltaT : Option Int
  cap : Option Nat
  weight : Option Nat
  gapCount : Nat
  presentFor : Nat
  deriving DecidableEq, Repr

/-- The Peer Table and the Inbound Queue. -/
@[ext]
structure PeerTable where
  /-- in ascending order of address (R64) -/
  entries : List Entry
  /-- oldest place first (R69) -/
  queue : List Frame
  deriving DecidableEq, Repr

/-! ### Cycle Unit (chapter 5) -/

/-- What a computation takes in at its start (R91). -/
structure Taken where
  channels : Four (Option Int)
  channelStates : Four ChannelState
  flow : Option Nat
  mTarget : Nat
  available : Bool
  request : Nat
  mode : PumpMode
  speed : Nat
  integral : Nat
  atLimit : Bool
  holdingCount : Nat
  cap : Nat
  lastStarved : Bool
  deriving DecidableEq, Repr

/-- The cycle unit states (Table 5.1); a computation in CALC holds what it took in. -/
inductive CycleState where
  | opened
  | calc (taken : Taken)
  | held
  | heldPending
  deriving DecidableEq, Repr

/-- The Cycle Unit. -/
@[ext]
structure CycleUnit where
  /-- none while stopped; clock periods since it last started from zero while running (R85) -/
  timer : Option Nat
  state : CycleState
  deriving DecidableEq, Repr

/-! ### Figures Engine (chapters 6 to 8) -/

/-- The results group of a figures record (R115). -/
inductive Results where
  | plant (mode : PumpMode) (speed integral : Nat) (atLimit : Bool)
  | customer (request cap : Nat) (target : Option Nat)
  deriving DecidableEq, Repr

/-- A figures record (R115). The index is the index margin with the index address, absent when INDEX_NONE holds. -/
structure FiguresRecord where
  stationState : StationState
  role : Role
  channels : Four (Option Int)
  channelStates : Four ChannelState
  sensorFault : Bool
  flow : Option Nat
  dp : Option Int
  margin : Option Int
  deltaT : Option Int
  deficit : Nat
  candidateCount : Nat
  index : Option (Int × Nat)
  ownIndex : Bool
  availableCount : Nat
  selfAvailable : Bool
  totalFlow : Nat
  weightSum : Nat
  allAtLimit : Bool
  starved : Bool
  results : Results
  deriving DecidableEq, Repr

/-- The Figures Engine's kept values (R114, R117, R119, R138). -/
@[ext]
structure FiguresEngine where
  record : Option FiguresRecord
  mode : PumpMode
  speed : Nat
  integral : Nat
  /-- previous AT_LIMIT -/
  atLimit : Bool
  holdingCount : Nat
  request : Nat
  cap : Nat
  lastStarved : Bool
  deriving DecidableEq, Repr

/-! ### Plant Drive and Valve Drive (section 7.6, chapter 9) -/

/-- The Plant Drive. -/
@[ext]
structure PlantDrive where
  /-- the speed command last received (R136, R137) -/
  command : Nat
  /-- clock periods into the PWM period, 0..799 -/
  phase : Nat
  /-- the high time of the PWM period in progress, in clock periods -/
  high : Nat
  deriving DecidableEq, Repr

/-- A pulse in flight (section 9.1). -/
structure Pulse where
  direction : Direction
  kind : PulseKind
  /-- E at the moment the pulse started; none is UNKNOWN -/
  start : Option Nat
  /-- clock periods since the pulse started -/
  timer : Nat
  /-- ms -/
  length : Nat
  deriving DecidableEq, Repr

/-- A pulse not yet started: a demanded pulse (R155) or a waiting pulse (section 9.1). -/
structure Demand where
  direction : Direction
  kind : PulseKind
  /-- ms -/
  length : Nat
  deriving DecidableEq, Repr

/-- What the Valve Drive is doing. OPENING, CLOSING, SEEK_OPEN and SEEK_CLOSE are the four ways a pulse is in flight
(Table 9.1). -/
inductive Drive where
  | idle
  | pulsing (p : Pulse)
  | dwelling (waiting : Option Demand)
  deriving DecidableEq, Repr

/-- The Valve Drive. -/
@[ext]
structure ValveDrive where
  /-- the estimate E; none is UNKNOWN -/
  estimate : Option Nat
  drive : Drive
  pending : Option Nat
  lastEnd : LastEnd
  /-- dwell timer, in clock periods -/
  dwellTimer : Nat
  deriving DecidableEq, Repr

/-! ### Supervisory Port (chapter 10) -/

/-- A response: status and data; length and check byte follow from them (R169). -/
structure Response where
  status : Status
  data : List Byte
  deriving DecidableEq, Repr

/-- The thirteen counters, in the order of Table 10.3. -/
structure Counters where
  framesAccepted : Nat
  crcErrors : Nat
  fragments : Nat
  formatErrors : Nat
  collisions : Nat
  abandoned : Nat
  superseded : Nat
  duplicates : Nat
  seqRejects : Nat
  overruns : Nat
  conflicts : Nat
  flowNoise : Nat
  starvedCycles : Nat
  deriving DecidableEq, Repr

/-- All counters at 0. -/
def Counters.zero : Counters := ⟨0, 0, 0, 0, 0, 0, 0, 0, 0, 0, 0, 0, 0⟩

/-- The Supervisory Port. -/
@[ext]
structure SupervisoryPort where
  response : Response
  /-- the latch set, in the mask order of Table 11.10 -/
  latches : BitVec 8
  counters : Counters
  /-- the select condition: none while no select period is in progress, else the bytes shifted in so far -/
  select : Option (List Byte)
  /-- the level of SSN -/
  ssnHigh : Bool
  deriving DecidableEq, Repr

/-! ### The machine -/

/-- The state of the DC412. `ties` is the model's own: it counts the free choices made so far (assumption log 3). -/
@[ext]
structure State where
  /-- RESETN low, or the power-on reset in progress (R7) -/
  inReset : Bool
  sc : StationController
  cfg : ConfigSet
  mu : MeasurementUnit
  fcu : FlowCaptureUnit
  lu : LinkUnit
  pt : PeerTable
  cu : CycleUnit
  fe : FiguresEngine
  pd : PlantDrive
  vd : ValveDrive
  sp : SupervisoryPort
  ties : Nat
  /-- the commands that wait, first in, first out -/
  pending : List Instr
  deriving DecidableEq, Repr

/-- Why a step stops. No command of the manual stops the part, so there is no reason. -/
inductive Fault where
  deriving DecidableEq, Repr

/-- Why the model gives a command no meaning. -/
inductive Refusal where
  /-- raised by exec's arm of a row the model has no meaning for, and by no meaning; safe: the model stops where the
  part goes on -/
  | notModelled (mnemonic : String)
  deriving DecidableEq, Repr

/-- The machine in hard reset, every block at its hard reset values (R3, R5, R7, R25, R38, R54, R84, R87, R101, R117,
R119, R138, R151, R178). It is what power-on leaves: END_OF_HARD_RESET samples the straps and the pins and lets the
part run (assumption log 1). Address, role, the two FLOWIN levels and the SSN level stand at placeholders until that
event overwrites them (assumption log 10). -/
def State.reset : State where
  inReset := true
  sc := ⟨1, .customer, .config, 0, 0, false, false⟩
  cfg := ConfigSet.defaults
  mu := ⟨⟨Channel.unseededRecord, Channel.unseededRecord, Channel.unseededRecord, Channel.unseededRecord⟩, 0, 0⟩
  fcu := ⟨0, 0, false, false, none, false, none, 0⟩
  lu := ⟨.off, .idle, none, none, 0, 0, false⟩
  pt := ⟨[], []⟩
  cu := ⟨none, .opened⟩
  fe := ⟨none, .stopped, 0, 0, false, 0, 0, 10000, false⟩
  pd := ⟨0, 0, 0⟩
  vd := ⟨none, .idle, none, .both, 0⟩
  sp := ⟨⟨.done, []⟩, 0, Counters.zero, none, true⟩
  ties := 0
  pending := []

end Sys2Proof.Machine
end

