-- ==== Sys2Proof/Machine/Flags.lean ====
section
/-! DEFINITION. The flags of the DC412: latches and counters (chapter 10), the report flags byte (Table 11.3), and the
levels of the output pins, which follow from the state (R40, R136, R137, R152, R167, R175). -/

namespace Sys2Proof.Machine

/-! ### Latches (R173, R174) -/

/-- The eight latches, in the mask order of Table 11.10. -/
inductive Latch where
  | addressConflict | txAbandoned | rxOverrun | sensorAbsent | starvedEntered | indexLost | holdOverrun | tableChanged
  deriving DecidableEq, Repr

/-- The bit of a latch in the latch mask and the latch set (Table 11.10). -/
def Latch.bit : Latch → Nat
  | .addressConflict => 0
  | .txAbandoned => 1
  | .rxOverrun => 2
  | .sensorAbsent => 3
  | .starvedEntered => 4
  | .indexLost => 5
  | .holdOverrun => 6
  | .tableChanged => 7

/-- Whether a latch is set. -/
def State.latched (s : State) (l : Latch) : Bool := s.sp.latches.getLsbD l.bit

/-- A latch is set, or stays set (R173). -/
def State.setLatch (l : Latch) (s : State) : State :=
  { s with sp.latches := s.sp.latches ||| (1#8 <<< l.bit) }

/-- A latch is set if a condition holds. -/
def State.setLatchIf (b : Bool) (l : Latch) (s : State) : State := if b then s.setLatch l else s

/-- ATTN, high while any latch is set (R175). In hard reset the latch set is empty. -/
def State.attn (s : State) : Bool := s.sp.latches != 0

/-! ### Counters (R176) -/

/-- The thirteen counters, in the order of Table 10.3. -/
inductive Counter where
  | framesAccepted | crcErrors | fragments | formatErrors | collisions | abandoned | superseded | duplicates
  | seqRejects | overruns | conflicts | flowNoise | starvedCycles
  deriving DecidableEq, Repr

/-- The value of a counter. -/
def Counters.get (k : Counters) : Counter → Nat
  | .framesAccepted => k.framesAccepted
  | .crcErrors => k.crcErrors
  | .fragments => k.fragments
  | .formatErrors => k.formatErrors
  | .collisions => k.collisions
  | .abandoned => k.abandoned
  | .superseded => k.superseded
  | .duplicates => k.duplicates
  | .seqRejects => k.seqRejects
  | .overruns => k.overruns
  | .conflicts => k.conflicts
  | .flowNoise => k.flowNoise
  | .starvedCycles => k.starvedCycles

/-- The counters with one of them increased by 1, saturating at 65535. -/
def Counters.bump (k : Counters) : Counter → Counters
  | .framesAccepted => { k with framesAccepted := satCount k.framesAccepted }
  | .crcErrors => { k with crcErrors := satCount k.crcErrors }
  | .fragments => { k with fragments := satCount k.fragments }
  | .formatErrors => { k with formatErrors := satCount k.formatErrors }
  | .collisions => { k with collisions := satCount k.collisions }
  | .abandoned => { k with abandoned := satCount k.abandoned }
  | .superseded => { k with superseded := satCount k.superseded }
  | .duplicates => { k with duplicates := satCount k.duplicates }
  | .seqRejects => { k with seqRejects := satCount k.seqRejects }
  | .overruns => { k with overruns := satCount k.overruns }
  | .conflicts => { k with conflicts := satCount k.conflicts }
  | .flowNoise => { k with flowNoise := satCount k.flowNoise }
  | .starvedCycles => { k with starvedCycles := satCount k.starvedCycles }

/-- The counters in the order of Table 10.3 (R181). -/
def Counters.toList (k : Counters) : List Nat :=
  [k.framesAccepted, k.crcErrors, k.fragments, k.formatErrors, k.collisions, k.abandoned, k.superseded, k.duplicates,
   k.seqRejects, k.overruns, k.conflicts, k.flowNoise, k.starvedCycles]

/-- The value of a counter of the machine. -/
def State.count (s : State) (c : Counter) : Nat := s.sp.counters.get c

/-- A counter increases by 1, saturating (R176). -/
def State.bump (c : Counter) (s : State) : State := { s with sp.counters := s.sp.counters.bump c }

/-- A counter increases by 1 if a condition holds. -/
def State.bumpIf (b : Bool) (c : Counter) (s : State) : State := if b then s.bump c else s

/-! ### Report flags (R46, Table 11.3) -/

/-- The flags byte of a report; bit 7 is sent clear. -/
def ReportFlags.toByte (f : ReportFlags) : Byte :=
  flagByte [f.restarted, f.available, f.atLimit, f.starved, f.yielding, f.sensorFault, f.indexNone]

/-- The flags of a received flags byte; bit 7 is ignored. -/
def ReportFlags.ofByte (b : Byte) : ReportFlags :=
  ⟨b.getLsbD 0, b.getLsbD 1, b.getLsbD 2, b.getLsbD 3, b.getLsbD 4, b.getLsbD 5, b.getLsbD 6⟩

/-! ### The outputs of the two drives -/

/-- The high time of a PWM period for a speed command: speed × 800 / 10000 clock periods, rounded to nearest with a
half rounded up (R136). -/
def pwmHigh (speed : Nat) : Nat := (speed * pwmClocks * 2 + 10000) / 20000

/-- Whether the Valve Drive drives a pulse in a direction (R152). -/
def ValveDrive.drives (v : ValveDrive) (d : Direction) : Bool :=
  match v.drive with
  | .pulsing p => p.direction == d
  | .idle | .dwelling _ => false

/-- OUTA: the speed PWM of a plant, VOPEN of a customer (Table 0.1, R7, R136, R152). R136 gives the high time of a PWM
period and not its place: the model puts it at the start of the period (DESIGN CHOICE, assumption log 11). -/
def State.outA (s : State) : Bool :=
  if s.inReset then false
  else match s.sc.role with
    | .plant => s.pd.phase < s.pd.high
    | .customer => s.vd.drives .opening

/-- OUTB: RUN of a plant, VCLOSE of a customer (Table 0.1, R7, R137, R152). -/
def State.outB (s : State) : Bool :=
  if s.inReset then false
  else match s.sc.role with
    | .plant => 0 < s.pd.command
    | .customer => s.vd.drives .closing

/-- The bytes of a response: status, length, data, check (R169, R181). -/
def Response.bytes (r : Response) : List Byte :=
  let head := r.status.code :: byte r.data.length :: r.data
  head ++ [-byteSum head]

/-- SDO over the first n clocks of a select period: the response buffer from its first byte, most significant bit
first, then the byte 0x00 for as long as the host goes on clocking (R167, R169). None is high-impedance. -/
def State.sdo (s : State) (n : Nat) : Option (List Bool) :=
  s.sp.select.map fun _ =>
    let out := (bitsOf s.sp.response.bytes).take n
    out ++ List.replicate (n - out.length) false

end Sys2Proof.Machine
end

