-- ==== Sys2Proof/Machine/Ops.lean ====
section
/-! DEFINITION. The operations every family shares: the passing of time, the taking of an event, the configuration set,
and the taking and answering of a host command at the end of a select period. -/

namespace Sys2Proof.Machine

/-- The outcome of a command. -/
abbrev Result := Host.Outcome State Fault Refusal

/-! ### The passing of time

Every timer of the part counts periods of the clock on XIN. `State.pass d` is d of them passing with no event taken:
it moves timers and nothing else. -/

/-- The capture counter runs on, modulo 2^32 (R32). -/
def FlowCaptureUnit.pass (d : Nat) (f : FlowCaptureUnit) : FlowCaptureUnit :=
  { f with
    counter := f.counter + BitVec.ofNat 32 ((f.fraction + d) / usClocks)
    fraction := (f.fraction + d) % usClocks }

/-- The access gap of a waiting frame and the time of a frame in flight run on (R56, R57). -/
def Transmitter.pass (d : Nat) : Transmitter → Transmitter
  | .idle => .idle
  | .waiting slot k gap => .waiting slot k (gap + d)
  | .sending o t => .sending o (t + d)

/-- Whether the transmitter is SENDING. -/
def Transmitter.isSending : Transmitter → Bool
  | .sending _ _ => true
  | .idle | .waiting _ _ _ => false

/-- The quiet time grows while the line stays recessive (R40). Once it reaches 2 C with nothing being sent, no character
of the station's own is on the line any more (R41, assumption log 20). -/
def LinkUnit.pass (d : Nat) (l : LinkUnit) : LinkUnit :=
  { l with
    quiet := l.quiet + d
    transmitter := l.transmitter.pass d
    beganSending := l.beganSending && (l.transmitter.isSending || l.quiet + d < idleClocks) }

/-- The PWM runs on. A new speed command takes effect at the start of the next PWM period (R136). -/
def PlantDrive.pass (d : Nat) (p : PlantDrive) : PlantDrive :=
  if p.phase + d < pwmClocks then { p with phase := p.phase + d }
  else { p with phase := (p.phase + d) % pwmClocks, high := pwmHigh p.command }

/-- The timer of a pulse in flight runs on (section 9.1). -/
def Drive.pass (d : Nat) : Drive → Drive
  | .pulsing p => .pulsing { p with timer := p.timer + d }
  | .idle => .idle
  | .dwelling w => .dwelling w

/-- The dwell timer and the timer of a pulse in flight run on (R154). -/
def ValveDrive.pass (d : Nat) (v : ValveDrive) : ValveDrive :=
  { v with dwellTimer := v.dwellTimer + d, drive := v.drive.pass d }

/-- d clock periods pass. The Valve Drive of a plant stays at its hard reset values (R151, assumption log 19), and the
Plant Drive of a customer is inactive (R2). -/
def State.pass (d : Nat) (s : State) : State :=
  { s with
    mu.timer := s.mu.timer + d
    fcu := s.fcu.pass d
    lu := s.lu.pass d
    cu.timer := s.cu.timer.map (· + d)
    pd := match s.sc.role with
      | .plant => s.pd.pass d
      | .customer => s.pd
    vd := match s.sc.role with
      | .plant => s.vd
      | .customer => s.vd.pass d }

/-! ### Taking an event -/

/-- While RESETN is held low the part is held in hard reset (R7): no event reaches it. -/
def State.event (f : State → State) (s : State) : Result := .next (if s.inReset then s else f s)

/-- A row that names an outcome of an event: the event, where it has that outcome, and no event where it has not
(assumption log 6). -/
def State.whenOutcome (event : State → State) (outcome : State → State → Bool) (s : State) : State :=
  if outcome s (event s) then event s else s

/-! ### The configuration set (R4, R6) -/

/-- The set with one parameter replaced. -/
def ConfigSet.put (c : ConfigSet) (p : Param) (x : Int) : ConfigSet :=
  match p with
  | .cyclePeriod => { c with cyclePeriod := x.toNat }
  | .staleLimit => { c with staleLimit := x.toNat }
  | .filterShift => { c with filterShift := x.toNat }
  | .flowVp => { c with flowVp := x.toNat }
  | .flowTimeout => { c with flowTimeout := x.toNat }
  | .dtDesign => { c with dtDesign := x.toNat }
  | .chLo n => { c with span := c.span.set n { c.span.get n with lo := x } }
  | .chHi n => { c with span := c.span.set n { c.span.get n with hi := x } }
  | .mTarget => { c with mTarget := x.toNat }
  | .kp => { c with kp := x.toNat }
  | .ki => { c with ki := x.toNat }
  | .ks => { c with ks := x.toNat }
  | .weight => { c with weight := x.toNat }
  | .speedMin => { c with speedMin := x.toNat }
  | .speedMax => { c with speedMax := x.toNat }
  | .ramp => { c with ramp := x.toNat }
  | .fallbackSpeed => { c with fallbackSpeed := x.toNat }
  | .hdrDpMax => { c with hdrDpMax := x.toNat }
  | .dpReq => { c with dpReq := x.toNat }
  | .yieldGain => { c with yieldGain := x.toNat }
  | .yieldShift => { c with yieldShift := x.toNat }
  | .stepMax => { c with stepMax := x.toNat }
  | .relax => { c with relax := x.toNat }
  | .capFloor => { c with capFloor := x.toNat }
  | .travelTime => { c with travelTime := x.toNat }
  | .deadband => { c with deadband := x.toNat }
  | .minPulse => { c with minPulse := x.toNat }
  | .dwell => { c with dwell := x.toNat }

/-- The value a parameter has in a set. -/
def ConfigSet.value (c : ConfigSet) (p : Param) : Int :=
  match p with
  | .cyclePeriod => c.cyclePeriod
  | .staleLimit => c.staleLimit
  | .filterShift => c.filterShift
  | .flowVp => c.flowVp
  | .flowTimeout => c.flowTimeout
  | .dtDesign => c.dtDesign
  | .chLo n => (c.span.get n).lo
  | .chHi n => (c.span.get n).hi
  | .mTarget => c.mTarget
  | .kp => c.kp
  | .ki => c.ki
  | .ks => c.ks
  | .weight => c.weight
  | .speedMin => c.speedMin
  | .speedMax => c.speedMax
  | .ramp => c.ramp
  | .fallbackSpeed => c.fallbackSpeed
  | .hdrDpMax => c.hdrDpMax
  | .dpReq => c.dpReq
  | .yieldGain => c.yieldGain
  | .yieldShift => c.yieldShift
  | .stepMax => c.stepMax
  | .relax => c.relax
  | .capFloor => c.capFloor
  | .travelTime => c.travelTime
  | .deadband => c.deadband
  | .minPulse => c.minPulse
  | .dwell => c.dwell

/-- The relations between parameters that START checks (R6). -/
def ConfigSet.relationsHold (c : ConfigSet) : Bool :=
  c.span.toList.all (fun p => p.lo < p.hi) && c.speedMin ≤ c.speedMax &&
    c.speedMin ≤ c.fallbackSpeed && c.fallbackSpeed ≤ c.speedMax

/-! ### Host commands (R168, R169, R170) -/

/-- A response together with the state the command leaves. -/
abbrev Reply := Response × State

/-- A DONE response that returns no data. -/
def Response.ok : Response := ⟨.done, []⟩

/-- A RETRY or REFUSED answer: no data, no effect (R170). -/
def turnedAway (st : Status) (s : State) : Reply := (⟨st, []⟩, s)

/-- Test 4 of R168: a role-bound command (R2). -/
def boundTo (r : Role) (f : State → Reply) (s : State) : Reply :=
  if s.sc.role = r then f s else turnedAway .role s

/-- Test 5 of R168: a command not taken in the present station state (Table 10.1). -/
def takenIn (states : List StationState) (f : State → Reply) (s : State) : Reply :=
  if s.sc.state ∈ states then f s else turnedAway .state s

/-- The running station states. -/
def runningStates : List StationState := [.listen, .active, .muted, .quiet]

/-- SSN goes high: no select period is in progress (R167). -/
def State.deselect (s : State) : State := { s with sp.select := none, sp.ssnHigh := true }

/-- The response replaces the content of the response buffer (R169). -/
def State.answer (r : Response) (s : State) : State := { s with sp.response := r }

/-- The end of a select period whose command is taken: acting on it and forming its response is one event (R168). -/
def State.taking (f : State → Reply) (s : State) : State := ((f s).2.deselect).answer (f s).1

/-- The end of a select period that carries a command. SSN going high where no select period is in progress takes
nothing (R178, assumption log 9). -/
def State.portCommand (f : State → Reply) (s : State) : State :=
  if s.sp.select.isSome then s.taking f else s.deselect

end Sys2Proof.Machine
end

