-- ==== Sys2Proof/Machine/Link.lean ====
section
/-! DEFINITION. The loop link's sending side (chapter 3): the byte layout of frames (R42 to R47, R179), the slots, the
access gap, and the transmitter. -/

namespace Sys2Proof.Machine

/-! ### Frames as characters (R42, R179, Tables 11.1 to 11.4) -/

/-- The source address of a frame. -/
def Frame.source : Frame → Nat
  | .report r => r.source
  | .notice n => n.source

/-- The sequence field of a frame. -/
def Frame.sequence : Frame → Byte
  | .report r => r.sequence
  | .notice n => n.sequence

/-- The slot a frame of a kind is placed in (section 3.4). -/
def Frame.slot : Frame → Slot
  | .report _ => .report
  | .notice _ => .notice

/-- The role codes of frames and records (Table 11.2, R181). -/
def Role.code : Role → Byte
  | .plant => 1
  | .customer => 2

/-- The presence mask of a report or of an entry (Table 11.4). -/
def presenceMask (margin : Option Int) (flow : Option Nat) (deltaT : Option Int) (cap : Option Nat)
    (weight : Option Nat) : Byte :=
  flagByte [margin.isSome, flow.isSome, deltaT.isSome, cap.isSome, weight.isSome]

/-- An optional signed 16-bit field as it is packed: absent fields take no characters. -/
def packSigned : Option Int → List Byte
  | none => []
  | some x => be16 x

/-- An optional unsigned 16-bit field as it is packed. -/
def packUnsigned : Option Nat → List Byte
  | none => []
  | some n => be16 n

/-- The optional weight as it is packed. -/
def packByte : Option Nat → List Byte
  | none => []
  | some n => [byte n]

/-- The body of a report (Table 11.2). -/
def Report.body (r : Report) : List Byte :=
  [byte r.source, 0x10 ||| r.role.code, r.sequence, r.flags.toByte,
    presenceMask r.margin r.flow r.deltaT r.cap r.weight] ++
  be16 r.output ++ packSigned r.margin ++ packUnsigned r.flow ++ packSigned r.deltaT ++ packUnsigned r.cap ++
  packByte r.weight

/-- The body of a leave notice (R47). -/
def Notice.body (n : Notice) : List Byte := [byte n.source, 0x20 ||| n.role.code, n.sequence]

/-- The body of a frame. -/
def Frame.body : Frame → List Byte
  | .report r => r.body
  | .notice n => n.body

/-- The characters after the delimiter: the length, the body, the CRC over both, high byte first (R42, R43). -/
def Frame.characters (f : Frame) : List Byte :=
  let covered := byte f.body.length :: f.body
  let crc := crc16 covered
  covered ++ [crc.extractLsb' 8 8, crc.extractLsb' 0 8]

/-- The delimiter of a frame (R42). -/
def delimiter : Byte := 0xC3

/-- The levels of a whole frame on the line, character after character (R41). -/
def Frame.levels (f : Frame) : List Bool := (delimiter :: f.characters).flatMap characterLevels

/-- The number of bit times a frame takes to send (R42). -/
def Frame.bitTimes (f : Frame) : Nat := 10 * (f.body.length + 4)

/-! ### Received characters as a frame (R51) -/

/-- The role of a kind and role byte. -/
def roleOf (low : Nat) : Option Role := if low = 1 then some .plant else if low = 2 then some .customer else none

/-- An optional 16-bit field taken from the packed fields, and the fields after it. -/
def takeWord (present : Bool) : List Byte → Option (Option Word16 × List Byte)
  | h :: l :: rest => if present then some (some (h ++ l : BitVec (8 + 8)), rest) else some (none, h :: l :: rest)
  | rest => if present then none else some (none, rest)

/-- The optional weight taken from the packed fields, and the fields after it. -/
def takeByte (present : Bool) : List Byte → Option (Option Byte × List Byte)
  | b :: rest => if present then some (some b, rest) else some (none, b :: rest)
  | [] => if present then none else some (none, [])

/-- Whether a role may mark these fields present (R51): a customer carries no weight; a plant carries no margin and no
cap, and always a weight. -/
def fieldsFitRole (role : Role) (margin cap weight : Bool) : Bool :=
  match role with
  | .customer => !weight
  | .plant => !margin && !cap && weight

/-- The report of a body, or none when the format check fails (R51). -/
def reportOfBody (source : Nat) (role : Role) (sequence flags mask high low : Byte) (fields : List Byte) :
    Option Report := do
  let (margin, rest) ← takeWord (mask.getLsbD 0) fields
  let (flow, rest) ← takeWord (mask.getLsbD 1) rest
  let (deltaT, rest) ← takeWord (mask.getLsbD 2) rest
  let (cap, rest) ← takeWord (mask.getLsbD 3) rest
  let (weight, rest) ← takeByte (mask.getLsbD 4) rest
  let output := (high ++ low : BitVec (8 + 8)).toNat
  if rest = [] ∧ mask.toNat < 32 ∧ output ≤ 10000 ∧ cap.all (·.toNat ≤ 9999) ∧ weight.all (·.toNat ≠ 0) ∧
      fieldsFitRole role margin.isSome cap.isSome weight.isSome then
    some {
      source, role, sequence, flags := ReportFlags.ofByte flags, output
      margin := margin.map (·.toInt), flow := flow.map (·.toNat), deltaT := deltaT.map (·.toInt)
      cap := cap.map (·.toNat), weight := weight.map (·.toNat) }
  else none

/-- The frame of a body, or none when the format check fails (R51, R52). -/
def frameOfBody : List Byte → Option Frame
  | source :: kindRole :: sequence :: more =>
    if 1 ≤ source.toNat ∧ source.toNat ≤ 32 then
      match roleOf (kindRole.toNat % 16) with
      | none => none
      | some role =>
        if kindRole.toNat / 16 = 2 then
          if more = [] then some (.notice ⟨source.toNat, role, sequence⟩) else none
        else if kindRole.toNat / 16 = 1 then
          match more with
          | flags :: mask :: high :: low :: fields =>
            (reportOfBody source.toNat role sequence flags mask high low fields).map .report
          | _ => none
        else none
    else none
  | _ => none

/-- The outcomes of the two steps of R51. -/
inductive FrameCheck where
  | crcFailure | formatFailure
  | good (f : Frame)
  deriving DecidableEq, Repr

/-- The check of a complete frame: first the check field, then the format (R51). The characters are the length, the
body it counts and the two check characters. -/
def checkFrame : List Byte → FrameCheck
  | [] => .crcFailure
  | l :: rest =>
    let body := rest.take l.toNat
    let crc := crc16 (l :: body)
    if rest.drop l.toNat ≠ [crc.extractLsb' 8 8, crc.extractLsb' 0 8] then .crcFailure
    else match frameOfBody body with
      | none => .formatFailure
      | some f => .good f

/-! ### The transmitter (R54 to R63) -/

/-- k of the access gap (R56). -/
def gapK (address : Nat) (o : Outgoing) : Nat := (address + 5 * o.attempt + o.frame.sequence.toNat) % 16

/-- What a slot holds. -/
def LinkUnit.slot (l : LinkUnit) : Slot → Option Outgoing
  | .report => l.reportSlot
  | .notice => l.noticeSlot

/-- A slot with its content replaced. -/
def LinkUnit.setSlot (l : LinkUnit) (slot : Slot) (o : Option Outgoing) : LinkUnit :=
  match slot with
  | .report => { l with reportSlot := o }
  | .notice => { l with noticeSlot := o }

/-- The transmitter enters WAITING for a slot's frame: it works out k and begins the access gap (R56). -/
def LinkUnit.waitFor (address : Nat) (slot : Slot) (o : Outgoing) (l : LinkUnit) : LinkUnit :=
  { l with transmitter := .waiting slot (gapK address o) 0 }

/-- The transmitter chooses a slot: the notice slot if it holds a frame, else the report slot, else IDLE (R54, R55). -/
def LinkUnit.serve (address : Nat) (l : LinkUnit) : LinkUnit :=
  match l.noticeSlot, l.reportSlot with
  | some o, _ => l.waitFor address .notice o
  | none, some o => l.waitFor address .report o
  | none, none => { l with transmitter := .idle }

/-- Whether the frame in flight came from a slot. -/
def Transmitter.inFlightFrom (slot : Slot) : Transmitter → Bool
  | .sending o _ => o.frame.slot == slot
  | .idle | .waiting _ _ _ => false

/-- Whether the transmitter is serving a slot, waiting or sending. -/
def Transmitter.serving (slot : Slot) : Transmitter → Bool
  | .sending o _ => o.frame.slot == slot
  | .waiting s _ _ => s == slot
  | .idle => false

/-- A slot is withdrawn (R14): its waiting frame is removed and its frame in transmission is cut; each withdrawn report
counts SUPERSEDED (assumption log 26). The receiver keeps its mark (R53). -/
def State.withdraw (slot : Slot) (s : State) : State :=
  let waiting := (s.lu.slot slot).isSome
  let flying := s.lu.transmitter.inFlightFrom slot
  let l := s.lu.setSlot slot none
  let l := if s.lu.transmitter.serving slot then l.serve s.sc.address else l
  (({ s with lu := l }).bumpIf (slot == Slot.report && waiting) .superseded).bumpIf (slot == Slot.report && flying) .superseded

/-- A report is placed in the report slot (R62): it replaces an older report not yet in flight, counting SUPERSEDED; a
transmitter that was IDLE, or WAITING on the report slot, begins the gap for it. -/
def State.placeReport (r : Report) (s : State) : State :=
  let o : Outgoing := ⟨.report r, 0⟩
  let l := { s.lu with reportSlot := some o }
  let l := match s.lu.transmitter with
    | .idle => l.serve s.sc.address
    | .waiting .report _ _ => l.waitFor s.sc.address .report o
    | .waiting .notice _ _ | .sending _ _ => l
  { s with lu := l }.bumpIf s.lu.reportSlot.isSome .superseded

/-- A leave notice is placed in the notice slot (R63). -/
def State.placeNotice (s : State) : State :=
  let n : Notice := ⟨s.sc.address, s.sc.role, s.lu.sequence⟩
  let l := { s.lu with noticeSlot := some ⟨.notice n, 0⟩ }
  let l := match s.lu.transmitter with
    | .idle => l.serve s.sc.address
    | .waiting _ _ _ | .sending _ _ => l
  { s with lu := l }

/-- The access gap is completed: the frame leaves its slot as the frame in flight, and the transmitter drives the start
bit of the delimiter (R54, R56). The line reads dominant, and the character that begins on it is the station's own (R40,
R53, assumption log 20). Time passes until the gap is complete. -/
def State.accessGap (s : State) : State :=
  match s.lu.transmitter with
  | .waiting slot k gap =>
    match s.lu.slot slot with
    | some o =>
      let s := s.pass (gapClocks k - gap)
      { s with lu := { s.lu.setSlot slot none with transmitter := .sending o 0, quiet := 0, beganSending := true } }
    | none => s
  | .idle | .sending _ _ => s

/-- The receiver's mark of its own frame is removed (R53). -/
def Receiver.unmark : Receiver → Receiver
  | .collect _ cs => .collect false cs
  | .off => .off
  | .hunt => .hunt
  | .discard => .discard

/-- Whether a collision finds the report in flight superseded by a newer one in the report slot (R58, R62). -/
def LinkUnit.superseding (l : LinkUnit) (o : Outgoing) : Bool := o.frame.slot == Slot.report && l.reportSlot.isSome

/-- A collision of the frame in flight (R58): sending stops at once, and the frame is superseded, retried or
abandoned. -/
def State.collision (s : State) : State :=
  match s.lu.transmitter with
  | .sending o _ =>
    let s := s.bump .collisions
    let l := { s.lu with receiver := s.lu.receiver.unmark, beganSending := false }
    let failed : Outgoing := ⟨o.frame, o.attempt + 1⟩
    if s.lu.superseding o then
      { s with lu := l.serve s.sc.address }.bump .superseded
    else if failed.attempt < 6 then
      { s with lu := (l.setSlot o.frame.slot (some failed)).serve s.sc.address }
    else
      ({ s with lu := l.serve s.sc.address }.bump .abandoned).setLatch .txAbandoned
  | .idle | .waiting _ _ _ => s

/-- Whether a collision now would be the sixth failed attempt of a frame that is not superseded (R58). -/
def State.abandonsNext (s : State) : Bool :=
  match s.lu.transmitter with
  | .sending o _ => !s.lu.superseding o && 5 ≤ o.attempt
  | .idle | .waiting _ _ _ => false

/-- The frame in flight has been sent whole (R59): a character that begins after it is not the station's own (R53). Time
passes until its last stop bit. -/
def State.frameSent (s : State) : State :=
  match s.lu.transmitter with
  | .sending o t =>
    let s := s.pass (bitClocks o.frame.bitTimes - t)
    { s with lu := { s.lu with beganSending := false }.serve s.sc.address }
  | .idle | .waiting _ _ _ => s

/-- The line was last read dominant this many clock periods ago: the quiet time and the access gap of a waiting frame
count from there, the latter with the same k (R40, R56). -/
def LinkUnit.dominant (ago : Nat) (l : LinkUnit) : LinkUnit :=
  { l with
    quiet := min l.quiet ago
    transmitter := match l.transmitter with
      | .waiting slot k gap => .waiting slot k (min gap ago)
      | .idle => .idle
      | .sending o t => .sending o t }

/-- LTX: the level of the bit being sent while SENDING, else high (R40, R57). -/
def State.ltx (s : State) : Bool :=
  match s.lu.transmitter with
  | .sending o t => if s.inReset then true else o.frame.levels.getD (t * 3 / 625) true
  | .idle | .waiting _ _ _ => true

/-- Whether a bit read back differs from the bit driven: a collision either way (R57). -/
def readBackCollides (driven read : Bool) : Bool := driven != read

end Sys2Proof.Machine
end

