-- ==== Sys2Proof/Machine/Table.lean ====
section
/-! DEFINITION. The Peer Table and the Inbound Queue (chapter 4). -/

namespace Sys2Proof.Machine

/-! ### Entries -/

/-- The entry for an address. -/
def PeerTable.find (t : PeerTable) (address : Nat) : Option Entry := t.entries.find? (·.address == address)

/-- An entry takes its place in ascending order of address, in place of the one that was there (R64). -/
def putEntry (e : Entry) : List Entry → List Entry
  | [] => [e]
  | x :: xs =>
    if e.address < x.address then e :: x :: xs
    else if e.address = x.address then e :: xs
    else x :: putEntry e xs

/-- The entry for an address is removed. -/
def dropEntry (address : Nat) (es : List Entry) : List Entry := es.filter (·.address != address)

/-- A new entry from a report (R72). -/
def Entry.created (r : Report) : Entry :=
  ⟨r.source, r.role, .fresh, 0, r.sequence, r.flags, r.output, r.margin, r.flow, r.deltaT, r.cap, r.weight, 0, 0⟩

/-- An entry refreshed by an accepted report, with this many reports counted as missed (R75, R76). -/
def Entry.refreshed (e : Entry) (r : Report) (missed : Nat) : Entry :=
  { e with
    flags := r.flags, output := r.output, margin := r.margin, flow := r.flow, deltaT := r.deltaT, cap := r.cap,
    weight := r.weight, lastSequence := r.sequence, age := 0, state := .fresh,
    gapCount := min 255 (e.gapCount + missed) }

/-! ### Applying frames (R72 to R77) -/

/-- The table's entries replaced. -/
def State.withEntries (es : List Entry) (s : State) : State := { s with pt.entries := es }

/-- A report is applied (Table 4.2). -/
def State.applyReport (r : Report) (s : State) : State :=
  match s.pt.find r.source with
  | none => (s.withEntries (putEntry (Entry.created r) s.pt.entries)).setLatch .tableChanged
  | some e =>
    if e.role ≠ r.role then
      (s.withEntries (putEntry (Entry.created r) s.pt.entries)).setLatch .tableChanged
    else if r.flags.restarted then
      s.withEntries (putEntry { e.refreshed r 0 with gapCount := e.gapCount } s.pt.entries)
    else
      let d := (r.sequence - e.lastSequence).toNat
      if d = 0 then s.bump .duplicates
      else if d ≤ 127 then s.withEntries (putEntry (e.refreshed r (d - 1)) s.pt.entries)
      else s.bump .seqRejects

/-- A leave notice is applied (R77). -/
def State.applyNotice (n : Notice) (s : State) : State :=
  if (s.pt.find n.source).isSome then
    (s.withEntries (dropEntry n.source s.pt.entries)).setLatch .tableChanged
  else s

/-- A frame is applied to the table. -/
def State.applyFrame (s : State) : Frame → State
  | .report r => s.applyReport r
  | .notice n => s.applyNotice n

/-! ### The inbound queue (R69 to R71) -/

/-- Whether the table is open (R68). -/
def State.tableOpen (s : State) : Bool :=
  match s.cu.state with
  | .opened => true
  | .calc _ | .held | .heldPending => false

/-- A frame takes the place of the waiting record from its source (R69). -/
def replaceInPlace (f : Frame) : List Frame → List Frame
  | [] => []
  | x :: xs => if x.source = f.source then f :: xs else x :: replaceInPlace f xs

/-- A frame is offered to the inbound queue (R69, R70). -/
def State.offer (f : Frame) (s : State) : State :=
  if s.pt.queue.any (·.source == f.source) then { s with pt.queue := replaceInPlace f s.pt.queue }
  else if s.pt.queue.length < 8 then { s with pt.queue := s.pt.queue ++ [f] }
  else (s.bump .overruns).setLatch .rxOverrun

/-- The queue drains as part of the opening: its records are applied one after another, oldest place first (R71). -/
def State.drain (s : State) : State := { s.pt.queue.foldl State.applyFrame s with pt.queue := [] }

/-- A frame that passed the conflict check is routed (R67). -/
def State.route (f : Frame) (s : State) : State := if s.tableOpen then s.applyFrame f else s.offer f

/-! ### Aging (R78 to R80) -/

/-- An entry one pass older (R78, R79). -/
def Entry.aged (limit : Nat) (e : Entry) : Entry :=
  { e with
    age := e.age + 1
    presentFor := min 65535 (e.presentFor + 1)
    state := if limit ≤ e.age + 1 then .stale else e.state }

/-- The index address named in the figures record the host can read (R80, R101). -/
def FiguresEngine.indexAddress (f : FiguresEngine) : Option Nat :=
  match f.record with
  | none => none
  | some r => r.index.map (·.2)

/-- One aging pass over every entry (R78): entries that reach 2 × stale_limit are removed, which sets TABLE_CHANGED,
and INDEX_LOST if one of them is the index (R80). -/
def State.agingPass (s : State) : State :=
  let older := s.pt.entries.map (Entry.aged s.cfg.staleLimit)
  let (kept, removed) := older.partition (fun e => e.age < 2 * s.cfg.staleLimit)
  ((s.withEntries kept).setLatchIf (!removed.isEmpty) .tableChanged).setLatchIf
    (removed.any (fun e => s.fe.indexAddress == some e.address)) .indexLost

end Sys2Proof.Machine
end

