-- ==== Sys2Proof/Machine/Figures.lean ====
section
/-! DEFINITION. The network figures (chapter 6): what one computation finds from what it took in and the closed
table. -/

namespace Sys2Proof.Machine

/-- The saturating difference of two optional figures; absent when an operand is absent (R102). -/
def difference : Option Int → Option Int → Option Int
  | some a, some b => some (sat16 (a - b))
  | none, _ => none
  | some _, none => none

/-- The deficit D (R107). -/
def deficitOf (dtDesign : Nat) : Option Int → Nat
  | none => dtDesign
  | some dT => if (dtDesign : Int) ≤ dT then 0 else satU16 (dtDesign - dT)

/-- Whether any of the four sampled channel states is other than VALID (R30). -/
def sensorFault (states : Four ChannelState) : Bool := states.toList.any (· != .valid)

/-! ### The index search (R108, R109) -/

/-- The peers' members of the candidate set: customer entries whose margin is present, FRESH or STALE. -/
def candidateOf (e : Entry) : Option (Int × Nat) :=
  match e.role, e.margin with
  | .customer, some m => some (m, e.address)
  | .customer, none => none
  | .plant, _ => none

/-- The candidate set, as margins with addresses. The own margin is present in a customer station only (R105). -/
def candidates (address : Nat) (ownMargin : Option Int) (es : List Entry) : List (Int × Nat) :=
  (ownMargin.map (·, address)).toList ++ es.filterMap candidateOf

/-- Of two candidates, the one with the lesser margin, and of equal margins the one with the lower address. -/
def lesser (a b : Int × Nat) : Int × Nat := if b.1 < a.1 ∨ (b.1 = a.1 ∧ b.2 < a.2) then b else a

/-- The index: the least margin and its address, or none for an empty candidate set. -/
def indexOf : List (Int × Nat) → Option (Int × Nat)
  | [] => none
  | c :: cs => some (cs.foldl lesser c)

/-! ### Available plants (R110 to R112) -/

/-- A member of the available set. -/
structure Member where
  flow : Option Nat
  weight : Nat
  atLimit : Bool
  deriving DecidableEq, Repr

/-- The peers' members: FRESH plant entries with AVAILABLE. -/
def memberOf (e : Entry) : Option Member :=
  if e.role = .plant ∧ e.state = .fresh ∧ e.flags.available = true then
    some ⟨e.flow, e.weight.getD 0, e.flags.atLimit⟩
  else none

/-- The modes in which a pump counts as running (R110). -/
def PumpMode.running : PumpMode → Bool
  | .run | .holding | .fallback => true
  | .stopped | .stopping | .frozen => false

/-- Whether the station itself is a member (R110). -/
def selfMember (sc : StationController) (t : Taken) : Bool :=
  sc.role == .plant && (sc.state == .active || sc.state == .muted) && t.available && t.mode.running

/-- The available set (R110). The station itself is at its limit when its previous AT_LIMIT holds (R112). -/
def availableSet (sc : StationController) (cfg : ConfigSet) (t : Taken) (es : List Entry) : List Member :=
  (if selfMember sc t then [⟨t.flow, cfg.weight, t.atLimit⟩] else []) ++ es.filterMap memberOf

/-- F_tot: a member whose flow is absent adds 0 (R111). -/
def totalFlow (ms : List Member) : Nat := (ms.map (fun m => m.flow.getD 0)).sum

/-- W (R111). -/
def weightSum (ms : List Member) : Nat := (ms.map (·.weight)).sum

/-- All-at-limit, which holds for an empty set (R112). -/
def allAtLimit (ms : List Member) : Bool := ms.all (·.atLimit)

/-- The starved condition (R113). -/
def starvedBy (index : Option (Int × Nat)) (atLimit : Bool) : Bool :=
  match index with
  | none => false
  | some (m, _) => m < 0 && atLimit

/-! ### All figures of a computation -/

/-- The figures a computation hands to the control laws, the report and the record (R116). -/
structure Figures where
  dp : Option Int
  margin : Option Int
  deltaT : Option Int
  deficit : Nat
  candidateCount : Nat
  index : Option (Int × Nat)
  ownIndex : Bool
  availableCount : Nat
  selfAvailable : Bool
  totalFlow : Nat
  weightSum : Nat
  allAtLimit : Bool
  starved : Bool
  deriving DecidableEq, Repr

/-- The figures of a computation at its completion (R103): from what it took in, the configuration set, the closed
table, and the station state at this moment. -/
def figures (sc : StationController) (cfg : ConfigSet) (t : Taken) (es : List Entry) : Figures :=
  let dp := difference t.channels.c0 t.channels.c1
  let margin := if sc.role = .customer then difference dp (some (cfg.dpReq : Int)) else none
  let deltaT := difference t.channels.c3 t.channels.c2
  let cs := candidates sc.address margin es
  let ms := availableSet sc cfg t es
  { dp, margin, deltaT
    deficit := deficitOf cfg.dtDesign deltaT
    candidateCount := cs.length
    index := indexOf cs
    ownIndex := (indexOf cs).any (fun i => i.2 == sc.address)
    availableCount := ms.length
    selfAvailable := selfMember sc t
    totalFlow := totalFlow ms
    weightSum := weightSum ms
    allAtLimit := allAtLimit ms
    starved := starvedBy (indexOf cs) (allAtLimit ms) }

end Sys2Proof.Machine
end

