-- ==== Sys2Proof/Machine/Customer.lean ====
section
/-! DEFINITION. Customer demand yielding (chapter 8): the cap law and the valve target. -/

namespace Sys2Proof.Machine

/-- The yield step (R142). -/
def yieldStep (cfg : ConfigSet) (deficit : Nat) : Nat := min cfg.stepMax (deficit * cfg.yieldGain / 2 ^ cfg.yieldShift)

/-- The cap law (Table 8.1). -/
def capLaw (cfg : ConfigSet) (cap : Nat) (f : Figures) : Nat :=
  if !f.starved then min 10000 (cap + cfg.relax)
  else if f.ownIndex || f.deficit = 0 then cap
  else max cfg.capFloor (cap - yieldStep cfg f.deficit)

/-- What the customer's work commits at a completion: the cap, and the target if one is issued (R140). -/
structure CustomerResult where
  cap : Nat
  target : Option Nat
  deriving DecidableEq, Repr

/-- The work of a customer at a completion, by the station state (R140), with the stored request as it stands (R145).
The cap taken in is the cap in force: nothing but a completion or RESTART changes it (R138). -/
def customerLaw (state : StationState) (cfg : ConfigSet) (t : Taken) (request : Nat) (f : Figures) : CustomerResult :=
  match state with
  | .listen => ⟨t.cap, some (min t.request (min request t.cap))⟩
  | .active | .muted =>
    let cap := capLaw cfg t.cap f
    ⟨cap, some (min t.request (min request cap))⟩
  | .quiet | .config => ⟨t.cap, none⟩

end Sys2Proof.Machine
end

