-- ==== Sys2Proof/Machine/Measure.lean ====
section
/-! DEFINITION. Field measurement (chapter 2): the channel records of the Measurement Unit and the Flow Capture Unit. -/

namespace Sys2Proof.Machine

/-! ### Channels (R21 to R31) -/

/-- A filter step (R24), by its formula. With filter_shift 0 and a sample more than 32767 from the filtered value the
saturated difference does not reach the sample, though R24 also says that the two become equal: the model keeps the
formula (DESIGN CHOICE, assumption log 12). -/
def filterStep (shift : Nat) (sample filtered : Int) : Int :=
  sat16 (filtered + asr (sat16 (sample - filtered)) shift)

/-- The filtered value after a valid code in VALID. A VALID channel always holds a filtered value; without one the
sample seeds it (assumption log 16). -/
def filteredBy (shift : Nat) (sample : Int) : Option Int → Int
  | some f => filterStep shift sample f
  | none => sample

/-- A channel record after a conversion completion with this code (R25 to R29, Table 2.5). -/
def Channel.convert (span : Span) (shift : Nat) (code : BitVec 12) (c : Channel) : Channel :=
  match scalingCode code with
  | none =>
    match c.state with
    | .unseeded => { c with raw := some code }
    | .valid => { c with raw := some code, state := .faultHold, faultHold := 1, recovery := 0 }
    | .faultHold =>
      if c.faultHold + 1 < 300 then { c with raw := some code, faultHold := c.faultHold + 1, recovery := 0 }
      else ⟨some code, .absent, none, 0, 0⟩
    | .absent => { c with raw := some code, recovery := 0 }
  | some k =>
    let sample := sampleOf span.lo span.hi k
    match c.state with
    | .unseeded => ⟨some code, .valid, some sample, 0, 0⟩
    | .valid => { c with raw := some code, filtered := some (filteredBy shift sample c.filtered) }
    | .faultHold =>
      if c.recovery + 1 < 10 then { c with raw := some code, recovery := c.recovery + 1, faultHold := 0 }
      else ⟨some code, .valid, some sample, 0, 0⟩
    | .absent =>
      if c.recovery + 1 < 10 then { c with raw := some code, recovery := c.recovery + 1 }
      else ⟨some code, .valid, some sample, 0, 0⟩

/-- A conversion completion (R21), taken when the conversion has run its 2.5 ms. A channel that enters ABSENT sets
SENSOR_ABSENT (R28). -/
def State.conversion (code : BitVec 12) (s : State) : State :=
  let s := s.pass (conversionClocks - s.mu.timer)
  let n := s.mu.rotation
  let before := s.mu.channels.get n
  let after := before.convert (s.cfg.span.get n) s.cfg.filterShift code
  { s with mu := ⟨s.mu.channels.set n after, n + 1, 0⟩ }.setLatchIf
    (before.state != ChannelState.absent && after.state == ChannelState.absent) .sensorAbsent

/-- The channel value a computation receives (R30). -/
def Channel.value (c : Channel) : Option Int :=
  match c.state with
  | .valid | .faultHold => c.filtered
  | .unseeded | .absent => none

/-- A channel whose span was configured anew (R31). -/
def Channel.unseed (c : Channel) : Channel := { c with state := .unseeded, filtered := none, faultHold := 0, recovery := 0 }

/-! ### Flow capture (R32 to R38) -/

/-- (counter − last capture) modulo 2^32, in µs. -/
def FlowCaptureUnit.elapsed (f : FlowCaptureUnit) : Nat := (f.counter - f.lastCapture.getD 0).toNat

/-- flow_timeout in µs. -/
def ConfigSet.timeoutMicros (c : ConfigSet) : Nat := c.flowTimeout * 1000000

/-- The FCU after a timeout (R36). -/
def FlowCaptureUnit.timedOut (f : FlowCaptureUnit) : FlowCaptureUnit :=
  { f with seenEdge := false, lastPeriod := none, lastFlow := 0 }

/-- One sample of FLOWIN, and whether it accepts a rising edge (R33). -/
def FlowCaptureUnit.sample (level : Bool) (f : FlowCaptureUnit) : FlowCaptureUnit × Bool :=
  if level == f.previous && level != f.accepted then ({ f with accepted := level, previous := level }, level)
  else ({ f with previous := level }, false)

/-- One volume per time, in 0.1 L/s (R35, R37). -/
def flowOf (flowVp micros : Nat) : Nat := flowVp * 10000 / micros

/-- A capture at the present counter value, and whether it is rejected as noise (R34, R35). -/
def FlowCaptureUnit.capture (flowVp : Nat) (f : FlowCaptureUnit) : FlowCaptureUnit × Bool :=
  if !f.seenEdge then ({ f with lastCapture := some f.counter, seenEdge := true }, false)
  else if f.elapsed < 200 then (f, true)
  else ({ f with
          lastFlow := min 65535 (flowOf flowVp f.elapsed)
          lastPeriod := some f.elapsed
          lastCapture := some f.counter }, false)

/-- The microseconds until the capture counter next reads a value: less than one wrap of the counter (R32). -/
def FlowCaptureUnit.microsUntil (value : Word32) (f : FlowCaptureUnit) : Nat := (value - f.counter).toNat

/-- The clock periods until the capture counter next reads a value. -/
def FlowCaptureUnit.clocksUntil (value : Word32) (f : FlowCaptureUnit) : Nat :=
  f.microsUntil value * usClocks - f.fraction

/-- The FCU times out if the time has come (R36). -/
def State.flowTimeoutIf (late : Bool) (s : State) : State :=
  if s.fcu.seenEdge && late then { s with fcu := s.fcu.timedOut } else s

/-- An accepted rising edge of FLOWIN (R33): two consecutive high samples against a low accepted level, the second at
this counter value. A capture that comes after the timeout's moment finds the timeout taken: the elapsed time at the capture is
that of now and the time until the capture, counted without wrapping (R36, assumption log 18). -/
def State.flowCapture (value : Word32) (s : State) : State :=
  if s.fcu.accepted then s
  else
    let late := decide (s.cfg.timeoutMicros < s.fcu.elapsed + s.fcu.microsUntil value)
    let s := (s.pass (s.fcu.clocksUntil value)).flowTimeoutIf late
    let (f, noise) := (((s.fcu.sample true).1.sample true).1).capture s.cfg.flowVp
    { s with fcu := f }.bumpIf noise .flowNoise

/-- Two consecutive low samples against a high accepted level (R33). -/
def State.flowinLow (s : State) : State := { s with fcu := ((s.fcu.sample false).1.sample false).1 }

/-- The timeout of the FCU, taken when (counter − last capture) reaches flow_timeout (R36). -/
def State.flowTimeout (s : State) : State :=
  if s.fcu.seenEdge then
    let wait := s.cfg.timeoutMicros - s.fcu.elapsed
    let s := s.pass (wait * usClocks - s.fcu.fraction)
    { s with fcu := s.fcu.timedOut }
  else s

/-- Whether the timeout row of R37 is the one that holds. -/
def State.flowLate (s : State) : Bool :=
  s.cfg.flowVp != 0 && s.fcu.seenEdge && s.fcu.lastPeriod.isSome && s.cfg.timeoutMicros ≤ s.fcu.elapsed

/-- The flow given to a computation (R37), its rows checked from the top down. -/
def State.flowGiven (s : State) : Option Nat :=
  if s.cfg.flowVp = 0 then none
  else if !s.fcu.seenEdge then some 0
  else match s.fcu.lastPeriod with
    | none => some 0
    | some period =>
      if s.cfg.timeoutMicros ≤ s.fcu.elapsed then some 0
      else if period < s.fcu.elapsed then some (min s.fcu.lastFlow (flowOf s.cfg.flowVp s.fcu.elapsed))
      else some s.fcu.lastFlow

end Sys2Proof.Machine
end

