-- ==== Sys2Proof/Machine/Plant.lean ====
section
/-! DEFINITION. Plant pumping control (chapter 7): the pump modes and the PI law with load sharing. -/

namespace Sys2Proof.Machine

/-- What the plant law commits at a completion (R119). -/
structure PlantResult where
  mode : PumpMode
  speed : Nat
  integral : Nat
  atLimit : Bool
  holdingCount : Nat
  deriving DecidableEq, Repr

/-- The header condition: dp present and above hdr_dp_max (R130, R132). -/
def headerHigh (cfg : ConfigSet) (dp : Option Int) : Bool := dp.any (fun d => (cfg.hdrDpMax : Int) < d)

/-- AT_LIMIT at a completion that commits RUN, HOLDING, FALLBACK or FROZEN (R132). -/
def atLimitAt (cfg : ConfigSet) (dp : Option Int) (speed : Nat) : Bool := speed == cfg.speedMax || headerHigh cfg dp

/-- The error e (R127). -/
def plantError (mTarget : Nat) (indexMargin : Int) : Int := sat16 (mTarget - indexMargin)

/-- The proportional term p (R127). -/
def proportional (kp : Nat) (e : Int) : Int := sat16 (asr (e * kp) 6)

/-- The integral step (R128). -/
def integralStep (ki : Nat) (e : Int) : Int := asr (e * ki) 10

/-- The integral after a RUN computation, its step applied conditionally (R128). -/
def nextIntegral (cfg : ConfigSet) (t : Taken) (e : Int) : Nat :=
  let step := integralStep cfg.ki e
  if 0 < step ∧ t.atLimit = true then t.integral
  else if step < 0 ∧ t.speed = cfg.speedMin then t.integral
  else (clamp 0 10000 (t.integral + step)).toNat

/-- The share term s (R129). -/
def shareTerm (cfg : ConfigSet) (t : Taken) (f : Figures) : Int :=
  match t.flow with
  | none => 0
  | some own =>
    if 2 ≤ f.availableCount ∧ f.selfAvailable = true then
      let target := min 65535 (f.totalFlow * cfg.weight / f.weightSum)
      let h := sat16 ((target : Int) - own)
      sat16 (asr (h * cfg.ks) 8)
    else 0

/-- x moved into (speed − ramp)..(speed + ramp) (R131, R134). -/
def rampFrom (cfg : ConfigSet) (speed : Nat) (x : Int) : Int := clamp (speed - cfg.ramp) (speed + cfg.ramp) x

/-- The PI law in RUN (R127 to R132). -/
def runLaw (cfg : ConfigSet) (t : Taken) (f : Figures) (indexMargin : Int) : PlantResult :=
  let e := plantError t.mTarget indexMargin
  let i := nextIntegral cfg t e
  let u := clamp cfg.speedMin cfg.speedMax (sat16 (proportional cfg.kp e + i + shareTerm cfg t f))
  let u := if headerHigh cfg f.dp then min u t.speed else u
  let speed := (rampFrom cfg t.speed u).toNat
  ⟨.run, speed, i, atLimitAt cfg f.dp speed, 0⟩

/-- The start (R124). -/
def startPump (cfg : ConfigSet) (f : Figures) : PlantResult :=
  ⟨.run, cfg.speedMin, cfg.speedMin, atLimitAt cfg f.dp cfg.speedMin, 0⟩

/-- A completion of the stop sequence (R125). -/
def stopStep (cfg : ConfigSet) (t : Taken) : PlantResult :=
  let speed := if cfg.speedMin < t.speed then max cfg.speedMin (t.speed - cfg.ramp) else 0
  ⟨if speed = 0 then .stopped else .stopping, speed, t.integral, false, 0⟩

/-- The speed held with the integral tracking it, in HOLDING or on the way to FALLBACK (R133). -/
def holdSpeed (cfg : ConfigSet) (t : Taken) (f : Figures) (count : Nat) : PlantResult :=
  if count < cfg.staleLimit then ⟨.holding, t.speed, t.speed, atLimitAt cfg f.dp t.speed, count⟩
  else ⟨.fallback, t.speed, t.speed, atLimitAt cfg f.dp t.speed, 0⟩

/-- A completion in FALLBACK with no index (R134). -/
def fallbackStep (cfg : ConfigSet) (t : Taken) (f : Figures) : PlantResult :=
  let x := rampFrom cfg t.speed cfg.fallbackSpeed
  let x := if headerHigh cfg f.dp then min x t.speed else x
  ⟨.fallback, x.toNat, x.toNat, atLimitAt cfg f.dp x.toNat, 0⟩

/-- The return of the index (R135). -/
def returnToRun (cfg : ConfigSet) (t : Taken) (f : Figures) (indexMargin : Int) : PlantResult :=
  let p := proportional cfg.kp (plantError t.mTarget indexMargin)
  ⟨.run, t.speed, (clamp 0 10000 (t.speed - p - shareTerm cfg t f)).toNat, atLimitAt cfg f.dp t.speed, 0⟩

/-- FROZEN: the speed and the integral are held (R122). -/
def frozenStep (cfg : ConfigSet) (t : Taken) (f : Figures) : PlantResult :=
  ⟨.frozen, t.speed, t.integral, atLimitAt cfg f.dp t.speed, 0⟩

/-- The work of the pump mode taken in, at a completion in ACTIVE or MUTED (Table of R123). FROZEN with a speed above 0
cannot be taken in there (R121); the model keeps it held (assumption log 15). -/
def pumpLaw (cfg : ConfigSet) (t : Taken) (f : Figures) : PlantResult :=
  match t.mode with
  | .stopped => if t.available then startPump cfg f else ⟨.stopped, 0, t.integral, false, 0⟩
  | .frozen =>
    if 0 < t.speed then frozenStep cfg t f
    else if t.available then startPump cfg f
    else ⟨.stopped, 0, t.integral, false, 0⟩
  | .stopping => stopStep cfg t
  | .run =>
    if t.available then
      match f.index with
      | some (m, _) => runLaw cfg t f m
      | none => ⟨.holding, t.speed, t.speed, atLimitAt cfg f.dp t.speed, 1⟩
    else stopStep cfg t
  | .holding =>
    if t.available then
      match f.index with
      | some (m, _) => returnToRun cfg t f m
      | none => holdSpeed cfg t f (t.holdingCount + 1)
    else stopStep cfg t
  | .fallback =>
    if t.available then
      match f.index with
      | some (m, _) => returnToRun cfg t f m
      | none => fallbackStep cfg t f
    else stopStep cfg t

/-- The work of the plant law at a completion, by the station state at the completion (R120). No computation completes
in CONFIG. -/
def plantLaw (state : StationState) (cfg : ConfigSet) (t : Taken) (f : Figures) : PlantResult :=
  match state with
  | .listen => frozenStep cfg t f
  | .active | .muted => pumpLaw cfg t f
  | .quiet | .config => stopStep cfg t

/-- The mode that entry into ACTIVE from LISTEN leaves (R11, R121). -/
def modeOnActive (speed : Nat) (available : Bool) (mode : PumpMode) : PumpMode :=
  if 0 < speed then (if available then .run else .stopping)
  else if available then mode else .stopped

/-- The mode that entry into QUIET leaves (R16). -/
def modeOnQuiet (speed : Nat) : PumpMode := if 0 < speed then .stopping else .stopped

end Sys2Proof.Machine
end

