-- ==== Sys2Proof/Machine/Receive.lean ====
section
/-! DEFINITION. The receiver of the Link Unit (R48 to R53) and the conflict check (R12, R66). -/

namespace Sys2Proof.Machine

/-- The conflict check finds the own address (R66), and the Station Controller acts on it (R12). -/
def State.conflict (s : State) : State :=
  let s := (s.bump .conflicts).setLatch .addressConflict
  match s.sc.state with
  | .active => { s.withdraw .report with sc := { s.sc with state := .muted, muteCount := 8 } }
  | .muted => { s with sc.muteCount := 8 }
  | .config | .listen | .quiet => s

/-- A good frame arrives at the conflict check (R66, R67). -/
def State.arrive (f : Frame) (s : State) : State :=
  if f.source = s.sc.address then s.conflict else s.route f

/-- A complete frame is checked, and the receiver enters HUNT whatever the outcome (R51 to R53). -/
def State.finishFrame (own : Bool) (characters : List Byte) (s : State) : State :=
  let s := { s with lu.receiver := .hunt }
  if own then s
  else match checkFrame characters with
    | .crcFailure => s.bump .crcErrors
    | .formatFailure => s.bump .formatErrors
    | .good f => (s.bump .framesAccepted).arrive f

/-- The collection ends in DISCARD: a frame not marked own counts FORMAT_ERRORS (R50, R53). -/
def State.dropFrame (own : Bool) (s : State) : State :=
  { s with lu.receiver := .discard }.bumpIf (!own) .formatErrors

/-- Whether a length character lies in 3..16 (R50). -/
def lengthOk (l : Byte) : Bool := 3 ≤ l.toNat && l.toNat ≤ 16

/-- Whether the characters collected are all of a frame: the length L, L body characters and two check characters. -/
def frameWhole : List Byte → Bool
  | [] => false
  | l :: rest => rest.length == l.toNat + 2

/-- A good character completes (R49, R50). -/
def State.receive (c : Byte) (s : State) : State :=
  match s.lu.receiver with
  | .off | .discard => s
  | .hunt =>
    if c = delimiter then
      { s with lu.receiver := .collect s.lu.beganSending [] }
    else { s with lu.receiver := .discard }
  | .collect own cs =>
    if cs = [] && !lengthOk c then s.dropFrame own
    else if frameWhole (cs ++ [c]) then s.finishFrame own (cs ++ [c])
    else { s with lu.receiver := .collect own (cs ++ [c]) }

/-- A character has ended. While the transmitter is SENDING the next one begins back to back and is the station's own
(R41, R53), but after the last character of a frame none does (assumption log 20). -/
def State.nextCharacter (last : Bool) (s : State) : State :=
  { s with lu.beganSending := s.lu.transmitter.isSending && !last }

/-- Whether this character completes the frame being collected. -/
def Receiver.completedBy (c : Byte) : Receiver → Bool
  | .collect _ cs => !(cs == []) && frameWhole (cs ++ [c])
  | .off | .hunt | .discard => false

/-- A good character completes on the line: its dominant bits restarted the quiet time (R40, assumption log 21), and
the receiver takes it. -/
def State.character (c : Byte) (s : State) : State :=
  ({ s with lu := s.lu.dominant (tailClocks c) }.receive c).nextCharacter (s.lu.receiver.completedBy c)

/-- A character with a framing fault completes: its stop bit was read dominant (R41, R49, R50). -/
def State.framingFault (s : State) : State :=
  let s := { s with lu := s.lu.dominant 0 }
  (match s.lu.receiver with
    | .off | .discard => s
    | .hunt => { s with lu.receiver := .discard }
    | .collect own _ => s.dropFrame own).nextCharacter false

/-- Whether the next good character is the length of the frame being collected. -/
def Receiver.atLength : Receiver → Bool
  | .collect _ cs => cs == []
  | .off | .hunt | .discard => false

/-- A format fault of the frame being collected (R50). A length is a fault only where one is expected, and only outside
3..16. -/
def State.formatFault (fault : RxFault) (s : State) : State :=
  match fault with
  | .framing => s.framingFault
  | .length l => if s.lu.receiver.atLength && !lengthOk l then s.character l else s

/-- The quiet time reaches 2 C: the line is idle for the receiver (R40, R48, R50). Time passes until then. -/
def State.idleLine (s : State) : State :=
  let s := s.pass (idleClocks - s.lu.quiet)
  match s.lu.receiver with
  | .off | .hunt => s
  | .discard => { s with lu.receiver := .hunt }
  | .collect own _ => { s with lu.receiver := .hunt }.bumpIf (!own) .fragments

/-- The receiver is turned on at START: in DISCARD, or in HUNT on an idle line (R48). -/
def LinkUnit.turnOn (l : LinkUnit) : LinkUnit :=
  { l with receiver := if idleClocks ≤ l.quiet then .hunt else .discard }

end Sys2Proof.Machine
end

