-- ==== Sys2Proof/Machine/Valve.lean ====
section
/-! DEFINITION. The Valve Drive (chapter 9): the estimate, the dwell between directions, demanded pulses, targets,
pulse ends, and end-seeks. Times are whole ms of each timer's own clock periods (assumption log 13). -/

namespace Sys2Proof.Machine

/-! ### Reckoning (R153) -/

/-- The pulse timer in ms. -/
def Pulse.ms (p : Pulse) : Nat := p.timer / msClocks

/-- The movement of a pulse that has run this many ms. -/
def movement (cfg : ConfigSet) (ms : Nat) : Nat := ms * 10 / cfg.travelTime

/-- A start estimate moved by a pulse, clamped to 0..10000. -/
def moved (d : Direction) (start by_ : Nat) : Nat :=
  match d with
  | .opening => min 10000 (start + by_)
  | .closing => start - by_

/-- The end of travel a direction leads to. -/
def Direction.endValue : Direction → Nat
  | .opening => 10000
  | .closing => 0

/-- The estimate after a pulse has run this many ms: UNKNOWN stays UNKNOWN. -/
def Pulse.reckon (cfg : ConfigSet) (p : Pulse) (ms : Nat) : Option Nat :=
  p.start.map fun e => moved p.direction e (movement cfg ms)

/-! ### Ends and dwell (R154) -/

/-- The last end that a pulse of a direction leaves. -/
def Direction.asEnd : Direction → LastEnd
  | .opening => .opening
  | .closing => .closing

/-- A pulse in flight ends: the last end becomes its direction and the dwell timer restarts. -/
def ValveDrive.recordEnd (d : Direction) (v : ValveDrive) : ValveDrive := { v with lastEnd := d.asEnd, dwellTimer := 0 }

/-- Whether the dwell timer has reached dwell. -/
def ValveDrive.dwellReached (cfg : ConfigSet) (v : ValveDrive) : Bool := cfg.dwell * msClocks ≤ v.dwellTimer

/-- Whether a pulse in a direction is permitted. -/
def ValveDrive.permits (cfg : ConfigSet) (v : ValveDrive) (d : Direction) : Bool :=
  v.lastEnd == d.asEnd || v.dwellReached cfg

/-- A demanded pulse starts now, from the estimate. -/
def ValveDrive.begin (w : Demand) (v : ValveDrive) : ValveDrive :=
  { v with drive := .pulsing ⟨w.direction, w.kind, v.estimate, 0, w.length⟩ }

/-- A demanded pulse starts if permitted, and waits in DWELL otherwise. -/
def ValveDrive.beginOrWait (cfg : ConfigSet) (w : Demand) (v : ValveDrive) : ValveDrive :=
  if v.permits cfg w.direction then v.begin w else { v with drive := .dwelling (some w) }

/-! ### Demanded pulses (R155) -/

/-- The pulse a target demands from an estimate. -/
def demanded (cfg : ConfigSet) (estimate target : Nat) : Option Demand :=
  let gap : Nat := if estimate ≤ target then target - estimate else estimate - target
  let length := (roundDiv ((gap * cfg.travelTime : Nat) : Int) 10).toNat
  if target = 0 then some ⟨.closing, .toEnd, length + cfg.travelTime * 100⟩
  else if target = 10000 then some ⟨.opening, .toEnd, length + cfg.travelTime * 100⟩
  else if gap ≤ cfg.deadband then none
  else if length < cfg.minPulse then none
  else some ⟨if estimate < target then .opening else .closing, .trim, length⟩

/-! ### End-seeks (R162) -/

/-- Whether the VD is seeking: a seek in flight, or a seek waiting in DWELL (section 9.1). -/
def ValveDrive.seeking (v : ValveDrive) : Bool :=
  match v.drive with
  | .pulsing p => p.kind == .seek
  | .dwelling (some w) => w.kind == .seek
  | .dwelling none => false
  | .idle => false

/-- The estimate brought up to date for any pulse in flight (R153). -/
def ValveDrive.upToDate (cfg : ConfigSet) (v : ValveDrive) : ValveDrive :=
  match v.drive with
  | .pulsing p => { v with estimate := p.reckon cfg p.ms }
  | .idle => v
  | .dwelling _ => v

/-- Any pulse in flight ends, its end recorded in its own direction. -/
def ValveDrive.endAny (v : ValveDrive) : ValveDrive :=
  match v.drive with
  | .pulsing p => { v.recordEnd p.direction with drive := .idle }
  | .idle => v
  | .dwelling _ => v

/-- The end a seek is driven toward, from the estimate (R162). -/
def seekToward : Option Nat → Direction
  | none => .closing
  | some e => if 5000 ≤ e then .opening else .closing

/-- A seek is begun (R162): the estimate is updated, the end is chosen, a pulse in flight ends, anything waiting or
pending is discarded, and the seek starts if permitted and waits otherwise. -/
def ValveDrive.beginSeek (cfg : ConfigSet) (v : ValveDrive) : ValveDrive :=
  let v := v.upToDate cfg
  ({ v.endAny with pending := none }).beginOrWait cfg ⟨seekToward v.estimate, .seek, cfg.travelTime * 1250⟩

/-- An end-seek is started if the estimate is UNKNOWN, on an entry into LISTEN (R9, R18, R19). -/
def ValveDrive.seekIfUnknown (cfg : ConfigSet) (v : ValveDrive) : ValveDrive :=
  if v.estimate.isNone then v.beginSeek cfg else v

/-! ### Targets (R156 to R159) -/

/-- A target acts on a VD that is not seeking and whose estimate is known (R156 to R158). -/
def ValveDrive.act (cfg : ConfigSet) (target estimate : Nat) (v : ValveDrive) : ValveDrive :=
  let demand := demanded cfg estimate target
  match v.drive, demand with
  | .idle, none => v
  | .idle, some w => v.beginOrWait cfg w
  | .pulsing p, none => { v.recordEnd p.direction with drive := .idle }
  | .pulsing p, some w =>
    if w.direction = p.direction then
      { v with drive := .pulsing { p with kind := w.kind, length := p.ms + w.length } }
    else { v.recordEnd p.direction with drive := .dwelling (some w) }
  | .dwelling _, none => { v with drive := .dwelling none }
  | .dwelling _, some w => v.beginOrWait cfg w

/-- A target arrives. While the VD is seeking it is stored as the pending target; with the estimate UNKNOWN outside a
seek it begins a seek and is stored as pending (R159). -/
def ValveDrive.target (cfg : ConfigSet) (target : Nat) (v : ValveDrive) : ValveDrive :=
  if v.seeking then { v with pending := some target }
  else
    let v := v.upToDate cfg
    match v.estimate with
    | none => { v.beginSeek cfg with pending := some target }
    | some e => v.act cfg target e

/-! ### Ends of pulses, of dwell and of seeks (R160, R161, R163) -/

/-- A trim pulse or end pulse runs its length (R160): a trim pulse moves the estimate by its movement, an end pulse
leaves it at the end value (R153). -/
def ValveDrive.pulseEnds (cfg : ConfigSet) (p : Pulse) (v : ValveDrive) : ValveDrive :=
  let e := match p.kind with
    | .trim => p.reckon cfg p.length
    | .toEnd | .seek => some p.direction.endValue
  { v.recordEnd p.direction with estimate := e, drive := .idle }

/-- A seek runs its length (R163): the estimate becomes the end, and a pending target is acted on as at IDLE. -/
def ValveDrive.seekEnds (cfg : ConfigSet) (p : Pulse) (v : ValveDrive) : ValveDrive :=
  let at_ : ValveDrive :=
    { v.recordEnd p.direction with estimate := some p.direction.endValue, drive := .idle, pending := none }
  match v.pending with
  | none => at_
  | some target => at_.act cfg target p.direction.endValue

/-- The VD leaves DWELL: the waiting pulse starts, or the VD enters IDLE (R161). -/
def ValveDrive.dwellEnds (waiting : Option Demand) (v : ValveDrive) : ValveDrive :=
  match waiting with
  | some w => v.begin w
  | none => { v with drive := .idle }

/-- Entry into QUIET, and RESTART: a pulse in flight is cut, with its end recorded and the estimate updated; what waits
or pends is dropped (R165). -/
def ValveDrive.stop (cfg : ConfigSet) (v : ValveDrive) : ValveDrive :=
  { (v.upToDate cfg).endAny with drive := .idle, pending := none }

/-- PULSE_END: time passes until the pulse timer reaches the length. -/
def State.pulseEnd (s : State) : State :=
  match s.vd.drive with
  | .pulsing p =>
    if p.kind = .seek then s
    else
      let s := s.pass (p.length * msClocks - p.timer)
      { s with vd := s.vd.pulseEnds s.cfg p }
  | .idle | .dwelling _ => s

/-- SEEK_END: time passes until the pulse timer reaches the length. -/
def State.seekEnd (s : State) : State :=
  match s.vd.drive with
  | .pulsing p =>
    if p.kind = .seek then
      let s := s.pass (p.length * msClocks - p.timer)
      { s with vd := s.vd.seekEnds s.cfg p }
    else s
  | .idle | .dwelling _ => s

/-- DWELL_END: time passes until the dwell timer reaches dwell. -/
def State.dwellEnd (s : State) : State :=
  match s.vd.drive with
  | .dwelling w =>
    let s := s.pass (s.cfg.dwell * msClocks - s.vd.dwellTimer)
    { s with vd := s.vd.dwellEnds w }
  | .idle | .pulsing _ => s

end Sys2Proof.Machine
end

