-- ==== Sys2Proof/Machine/Cycle.lean ====
section
/-! DEFINITION. The control cycle (chapter 5): computation start, computation completion, boundaries, and the ends of a
hold. -/

namespace Sys2Proof.Machine

/-! ### Computation start (R91) -/

/-- What a computation takes in, with the flow the FCU gives it. -/
def State.takeIn (flow : Option Nat) (s : State) : Taken where
  channels := s.mu.channels.map Channel.value
  channelStates := s.mu.channels.map Channel.state
  flow := flow
  mTarget := s.cfg.mTarget
  available := s.sc.available
  request := s.fe.request
  mode := s.fe.mode
  speed := s.fe.speed
  integral := s.fe.integral
  atLimit := s.fe.atLimit
  holdingCount := s.fe.holdingCount
  cap := s.fe.cap
  lastStarved := s.fe.lastStarved

/-- A computation starts: the FE takes in its inputs, the FCU times out if the flow row says so (R37), the CU enters
CALC, and the cycle timer restarts from zero (R86). -/
def State.startComputation (s : State) : State :=
  let taken := s.takeIn s.flowGiven
  { s.flowTimeoutIf s.flowLate with cu := ⟨some 0, .calc taken⟩ }

/-! ### Computation completion (R93) -/

/-- The figures record of a computation (R115). -/
def recordOf (sc : StationController) (t : Taken) (f : Figures) (results : Results) : FiguresRecord where
  stationState := sc.state
  role := sc.role
  channels := t.channels
  channelStates := t.channelStates
  sensorFault := sensorFault t.channelStates
  flow := t.flow
  dp := f.dp
  margin := f.margin
  deltaT := f.deltaT
  deficit := f.deficit
  candidateCount := f.candidateCount
  index := f.index
  ownIndex := f.ownIndex
  availableCount := f.availableCount
  selfAvailable := f.selfAvailable
  totalFlow := f.totalFlow
  weightSum := f.weightSum
  allAtLimit := f.allAtLimit
  starved := f.starved
  results := results

/-- The starved condition is compared with the last one (R114). -/
def State.commitStarved (starved : Bool) (s : State) : State :=
  let s := (s.bumpIf starved .starvedCycles).setLatchIf (starved && !s.fe.lastStarved) .starvedEntered
  { s with fe.lastStarved := starved }

/-- The report of a plant (R44 to R46, R126), but for its sequence and RESTARTED. -/
def plantReport (sc : StationController) (cfg : ConfigSet) (t : Taken) (f : Figures) (r : PlantResult) : Report where
  source := sc.address
  role := .plant
  sequence := 0
  flags :=
    { restarted := false
      available := t.available && r.mode != .stopped && r.mode != .stopping
      atLimit := r.atLimit
      starved := f.starved
      yielding := false
      sensorFault := sensorFault t.channelStates
      indexNone := f.index.isNone }
  output := r.speed
  margin := none
  flow := t.flow
  deltaT := f.deltaT
  cap := none
  weight := some cfg.weight

/-- The report of a customer (R44 to R46, R148), but for its sequence and RESTARTED. -/
def customerReport (sc : StationController) (t : Taken) (f : Figures) (r : CustomerResult) : Report where
  source := sc.address
  role := .customer
  sequence := 0
  flags :=
    { restarted := false
      available := false
      atLimit := false
      starved := f.starved
      yielding := r.cap < 10000
      sensorFault := sensorFault t.channelStates
      indexNone := f.index.isNone }
  output := r.target.getD 0
  margin := f.margin
  flow := t.flow
  deltaT := f.deltaT
  cap := if r.cap < 10000 then some r.cap else none
  weight := none

/-- The report step of a completion (R60 to R62): in ACTIVE the report is built with the advanced sequence number,
takes the first-report flag as RESTARTED and clears it, and is placed; in MUTED it is built and discarded; in LISTEN
and QUIET none is built. -/
def State.reportStep (r : Report) (s : State) : State :=
  let next := s.lu.sequence + 1
  match s.sc.state with
  | .active =>
    { s with lu.sequence := next, sc.firstReport := false }.placeReport
      { r with sequence := next, flags.restarted := s.sc.firstReport }
  | .muted => { s with lu.sequence := next }
  | .listen | .quiet | .config => s

/-- Entry into ACTIVE (R11). From LISTEN a plant leaves FROZEN (R121). -/
def State.enterActive (s : State) : State :=
  let s := match s.sc.state, s.sc.role with
    | .listen, .plant => { s with fe.mode := modeOnActive s.fe.speed s.sc.available s.fe.mode }
    | _, _ => s
  { s with sc := { s.sc with state := .active, listenCount := 0, muteCount := 0, firstReport := true } }

/-- The count step of a completion, taken last: the listen count in LISTEN, the mute count in MUTED (R10, R11, R13). -/
def State.countStep (s : State) : State :=
  match s.sc.state with
  | .listen => if s.sc.listenCount ≤ 1 then s.enterActive else { s with sc.listenCount := s.sc.listenCount - 1 }
  | .muted => if s.sc.muteCount ≤ 1 then s.enterActive else { s with sc.muteCount := s.sc.muteCount - 1 }
  | .active | .quiet | .config => s

/-- The CU enters OPEN, the table opens, and the queue drains (R68, R71). -/
def State.openTable (s : State) : State := { s with cu.state := .opened }.drain

/-- The results of a plant are committed, its drive receives the command, and its report is built (R92, R93). -/
def State.commitPlant (t : Taken) (f : Figures) (s : State) : State :=
  let r := plantLaw s.sc.state s.cfg t f
  let s :=
    { s with
      fe.record := some (recordOf s.sc t f (.plant r.mode r.speed r.integral r.atLimit))
      fe.mode := r.mode, fe.speed := r.speed, fe.integral := r.integral, fe.atLimit := r.atLimit
      fe.holdingCount := r.holdingCount
      pd.command := r.speed }
  s.reportStep (plantReport s.sc s.cfg t f r)

/-- The results of a customer are committed, its drive receives the target if one is issued, and its report is built
(R92, R93, R145). -/
def State.commitCustomer (t : Taken) (f : Figures) (s : State) : State :=
  let r := customerLaw s.sc.state s.cfg t s.fe.request f
  let s :=
    { s with
      fe.record := some (recordOf s.sc t f (.customer t.request r.cap r.target))
      fe.cap := r.cap
      vd := match r.target with
        | some target => s.vd.target s.cfg target
        | none => s.vd }
  s.reportStep (customerReport s.sc t f r)

/-- The completion of a computation that took this in, its steps in the order of R93. -/
def State.complete (t : Taken) (s : State) : State :=
  let f := figures s.sc s.cfg t s.pt.entries
  let s := s.commitStarved f.starved
  let s := match s.sc.role with
    | .plant => s.commitPlant t f
    | .customer => s.commitCustomer t f
  s.countStep.openTable

/-- The length of a computation: 2 ms and 1 ms for each peer entry (R86). -/
def State.computationClocks (s : State) : Nat := (2 + s.pt.entries.length) * msClocks

/-- COMPUTATION_COMPLETION: time passes until the computation's moment; then it completes. -/
def State.completion (s : State) : State :=
  match s.cu.state with
  | .calc t => (s.pass (s.computationClocks - s.cu.timer.getD 0)).complete t
  | .opened | .held | .heldPending => s

/-! ### Boundaries (R88 to R90) -/

/-- What a boundary does in each cycle unit state (Table 5.2). -/
def State.atBoundary (s : State) : State :=
  match s.cu.state with
  | .opened => s.agingPass.startComputation
  | .calc _ => s
  | .held => { s with cu := ⟨some 0, .heldPending⟩ }
  | .heldPending => (s.setLatch .holdOverrun).agingPass.agingPass.startComputation

/-- BOUNDARY: time passes until the cycle timer reaches cycle_period. A stopped timer raises none (R85), and none comes
in CALC (R86). -/
def State.boundary (s : State) : State :=
  match s.cu.timer, s.cu.state with
  | none, _ => s
  | some _, .calc _ => s
  | some t, _ => (s.pass (s.cfg.cyclePeriod * msClocks - t)).atBoundary

end Sys2Proof.Machine
end

