-- ==== Sys2Proof/Machine/LifeCycle.lean ====
section
/-! DEFINITION. The station life cycle (chapter 1): the resets, and what START, LEAVE, REJOIN and RESTART do once they
are taken. -/

namespace Sys2Proof.Machine

/-- A hard reset (R7): every block at its hard reset values. The queue of commands and the count of free choices are
the model's own and stand (assumption log 23). -/
def State.hardReset (s : State) : State := { State.reset with pending := s.pending, ties := s.ties }

/-- The end of a hard reset (R1): the straps are sampled, the first FLOWIN sample sets both levels (R33), and a port
whose SSN is low stays deselected until SSN has gone high (R178). -/
def State.endOfReset (addrCode : BitVec 5) (roleHigh flowinHigh ssnHigh : Bool) (s : State) : State :=
  { s with
    inReset := false
    sc.address := addrCode.toNat + 1
    sc.role := if roleHigh then .plant else .customer
    fcu.accepted := flowinHigh
    fcu.previous := flowinHigh
    sp.ssnHigh := ssnHigh }

/-- Entry into LISTEN from CONFIG or by RESTART, in the drives: a plant's pump mode becomes FROZEN with the holding count
0, and a customer's Valve Drive starts an end-seek if the estimate is UNKNOWN (R9, R19, R133). -/
def State.listenDrives (s : State) : State :=
  match s.sc.role with
  | .plant => { s with fe.mode := .frozen, fe.holdingCount := 0 }
  | .customer => { s with vd := s.vd.seekIfUnknown s.cfg }

/-- START once its checks pass (R9, R48, R85). -/
def State.startStation (s : State) : State :=
  { s with
    sc.state := .listen
    sc.listenCount := 2
    lu := s.lu.turnOn
    cu.timer := some 0 }.listenDrives

/-- Entry into QUIET, in the drives (R16). -/
def State.quietDrives (s : State) : State :=
  match s.sc.role with
  | .plant => { s with fe.mode := modeOnQuiet s.fe.speed }
  | .customer => { s with vd := s.vd.stop s.cfg }

/-- LEAVE once it is taken (R14 to R16): the report slot is withdrawn, a notice is placed if the station was in
ACTIVE, and the drives are stopped. -/
def State.leaveNetwork (s : State) : State :=
  let wasActive := s.sc.state == .active
  let s := s.withdraw .report
  let s := if wasActive then s.placeNotice else s
  { s with sc := { s.sc with state := .quiet, listenCount := 0, muteCount := 0 } }.quietDrives

/-- REJOIN in the drives (R18, R165): a pulse in flight and a waiting pulse are unchanged (Table 9.4), so a seek that runs
or waits already goes on; otherwise a seek is begun if the estimate is UNKNOWN. -/
def State.rejoinDrives (s : State) : State :=
  match s.sc.role with
  | .plant => { s with fe.mode := .frozen, fe.holdingCount := 0 }
  | .customer => if s.vd.seeking then s else { s with vd := s.vd.seekIfUnknown s.cfg }

/-- REJOIN once it is taken (R14, R18). -/
def State.rejoinNetwork (s : State) : State :=
  let s := s.withdraw .notice
  { s with sc := { s.sc with state := .listen, listenCount := 2 } }.rejoinDrives

/-- RESTART once it is taken (R14, R19, R84, R100, R165): one step. -/
def State.softRestart (s : State) : State :=
  let s := (s.withdraw .report).withdraw .notice
  let s :=
    { s with
      sc := { s.sc with state := .listen, listenCount := 2, muteCount := 0, firstReport := false }
      lu.sequence := 0
      pt := ⟨[], []⟩
      cu := ⟨some 0, .opened⟩
      fe.cap := 10000
      vd := match s.sc.role with
        | .plant => s.vd
        | .customer => s.vd.stop s.cfg }
  s.listenDrives

end Sys2Proof.Machine
end

