-- ==== Sys2Proof/Machine/Events.lean ====
section
/-! DEFINITION. The meanings of the events of the part: resets, measurement, the link, the cycle and the valve. Seven
rows name an outcome of an event that another row has whole; each is that event where it has the outcome (assumption
log 6). -/

namespace Sys2Proof.Machine

/-! ### Resets -/

/-- HARD_RESET (R7). -/
def execHardReset (s : State) : Result := .next s.hardReset

/-- END_OF_HARD_RESET (R1). RESETN cannot rise while it is high. -/
def execEndOfHardReset (addrCode : BitVec 5) (roleHigh flowinHigh ssnHigh : Bool) (s : State) : Result :=
  .next (if s.inReset then s.endOfReset addrCode roleHigh flowinHigh ssnHigh else s)

/-! ### Measurement -/

/-- CONVERSION_COMPLETION (R21). -/
def execConversionCompletion (code : BitVec 12) (s : State) : Result := s.event (State.conversion code)

/-- CHANNEL_ABSENT (R28): the conversion completion of this channel that takes it from FAULT_HOLD to ABSENT. -/
def execChannelAbsent (channel : Fin 4) (code : BitVec 12) (s : State) : Result :=
  s.event <| State.whenOutcome (State.conversion code) fun before after =>
    before.mu.rotation == channel && (before.mu.channels.get channel).state == ChannelState.faultHold &&
      (after.mu.channels.get channel).state == ChannelState.absent

/-- CHANNEL_RECOVERED (R27, R29): the conversion completion of this channel that returns it from FAULT_HOLD or ABSENT to
VALID. -/
def execChannelRecovered (channel : Fin 4) (code : BitVec 12) (s : State) : Result :=
  s.event <| State.whenOutcome (State.conversion code) fun before after =>
    before.mu.rotation == channel &&
      ((before.mu.channels.get channel).state == ChannelState.faultHold ||
        (before.mu.channels.get channel).state == ChannelState.absent) &&
      (after.mu.channels.get channel).state == ChannelState.valid

/-- FLOW_CAPTURE (R33 to R35). -/
def execFlowCapture (counter : Word32) (s : State) : Result := s.event (State.flowCapture counter)

/-- FLOWIN_LOW_ACCEPTED (R33). -/
def execFlowinLowAccepted (s : State) : Result := s.event State.flowinLow

/-- FLOW_TIMEOUT (R36). -/
def execFlowTimeout (s : State) : Result := s.event State.flowTimeout

/-! ### The link -/

/-- LINE_BUSY (R40, R56): LRX reads dominant. -/
def execLineBusy (s : State) : Result := s.event fun s => { s with lu := s.lu.dominant 0 }

/-- CHARACTER_COMPLETED (R49, R50). -/
def execCharacterCompleted (value : Byte) (s : State) : Result := s.event (State.character value)

/-- RX_FORMAT_FAULT (R50). -/
def execRxFormatFault (fault : RxFault) (s : State) : Result := s.event (State.formatFault fault)

/-- FRAME_COMPLETE (R51): the character that completes the frame being collected. -/
def execFrameComplete (lastCharacter : Byte) (s : State) : Result :=
  s.event fun s => if s.lu.receiver.completedBy lastCharacter then s.character lastCharacter else s

/-- QUIET_TIME_IDLE (R50). -/
def execQuietTimeIdle (s : State) : Result := s.event State.idleLine

/-- ACCESS_GAP_COMPLETE (R56). -/
def execAccessGapComplete (s : State) : Result := s.event State.accessGap

/-- COLLISION (R58). -/
def execCollision (s : State) : Result := s.event State.collision

/-- FRAME_ABANDONED (R58): the collision that is the sixth failed attempt of a frame that is not superseded. -/
def execFrameAbandoned (s : State) : Result := s.event fun s => if s.abandonsNext then s.collision else s

/-- FRAME_SENT (R59). -/
def execFrameSent (s : State) : Result := s.event State.frameSent

/-! ### The cycle -/

/-- BOUNDARY (R88 to R90). -/
def execBoundary (s : State) : Result := s.event State.boundary

/-- COMPUTATION_COMPLETION (R93). -/
def execComputationCompletion (s : State) : Result := s.event State.completion

/-- ENTER_FALLBACK (R133): the completion that takes a plant from HOLDING to FALLBACK. -/
def execEnterFallback (s : State) : Result :=
  s.event <| State.whenOutcome State.completion fun before after =>
    before.fe.mode == PumpMode.holding && after.fe.mode == PumpMode.fallback

/-- ENTER_ACTIVE (R11): the completion that takes the station into ACTIVE. -/
def execEnterActive (s : State) : Result :=
  s.event <| State.whenOutcome State.completion fun before after =>
    before.sc.state != StationState.active && after.sc.state == StationState.active

/-- ENTRY_STALE (R79): the boundary that takes the entry for this address from FRESH to STALE. -/
def execEntryStale (address : Byte) (s : State) : Result :=
  s.event <| State.whenOutcome State.boundary fun before after =>
    (before.pt.find address.toNat).any (fun e => e.state == PeerState.fresh) &&
      (after.pt.find address.toNat).any (fun e => e.state == PeerState.stale)

/-- ENTRY_REMOVED (R80): the boundary that removes the entry for this address. -/
def execEntryRemoved (address : Byte) (s : State) : Result :=
  s.event <| State.whenOutcome State.boundary fun before after =>
    (before.pt.find address.toNat).isSome && (after.pt.find address.toNat).isNone

/-! ### The valve -/

/-- PULSE_END (R160). -/
def execPulseEnd (s : State) : Result := s.event State.pulseEnd

/-- DWELL_END (R161). -/
def execDwellEnd (s : State) : Result := s.event State.dwellEnd

/-- SEEK_END (R163). -/
def execSeekEnd (s : State) : Result := s.event State.seekEnd

end Sys2Proof.Machine
end

