-- ==== Sys2Proof/Machine/Records.lean ====
section
/-! DEFINITION. The byte layouts of the records the host reads (section 11.3, R181): the station record, the figures
record, the peer list, a peer entry, and the counters. A field whose presence bit is clear is sent as zero bytes. Bits of
a record byte that the tables give no field are sent clear (DESIGN CHOICE, assumption log 28). -/

namespace Sys2Proof.Machine

/-! ### Codes (R181) -/

/-- Station state codes. -/
def StationState.code : StationState → Nat
  | .config => 0
  | .listen => 1
  | .active => 2
  | .muted => 3
  | .quiet => 4

/-- Channel state codes. -/
def ChannelState.code : ChannelState → Nat
  | .unseeded => 0
  | .valid => 1
  | .faultHold => 2
  | .absent => 3

/-- CU state codes. -/
def CycleState.code : CycleState → Nat
  | .opened => 0
  | .calc _ => 1
  | .held => 2
  | .heldPending => 3

/-- Pump mode codes. -/
def PumpMode.code : PumpMode → Nat
  | .stopped => 0
  | .run => 1
  | .holding => 2
  | .fallback => 3
  | .stopping => 4
  | .frozen => 5

/-- Peer state codes. -/
def PeerState.code : PeerState → Nat
  | .fresh => 0
  | .stale => 1

/-- Receiver state codes (Table 11.11). -/
def Receiver.code : Receiver → Nat
  | .off => 0
  | .hunt => 1
  | .collect _ _ => 2
  | .discard => 3

/-- Transmitter state codes (Table 11.11). -/
def Transmitter.code : Transmitter → Nat
  | .idle => 0
  | .waiting _ _ _ => 1
  | .sending _ _ => 2

/-- Drive state codes (Table 11.11). -/
def Drive.code : Drive → Nat
  | .idle => 0
  | .pulsing p =>
    match p.kind, p.direction with
    | .seek, .opening => 4
    | .seek, .closing => 5
    | .trim, .opening | .toEnd, .opening => 1
    | .trim, .closing | .toEnd, .closing => 2
  | .dwelling _ => 3

/-- Direction codes of a pulse (Table 11.11). -/
def Direction.code : Direction → Nat
  | .opening => 1
  | .closing => 2

/-- Kind codes of a pulse (Table 11.11). -/
def PulseKind.code : PulseKind → Nat
  | .trim => 1
  | .toEnd => 2
  | .seek => 3

/-- Last end codes (Table 11.11). -/
def LastEnd.code : LastEnd → Nat
  | .opening => 1
  | .closing => 2
  | .both => 3

/-- Direction in bits 1..0 and kind in bits 3..2 (Table 11.11). -/
def pulseCode (d : Direction) (k : PulseKind) : Byte := byte (d.code + 4 * k.code)

/-! ### The figures record (Table 11.8) -/

/-- The bytes of the results group, from offset 36. -/
def Results.bytes : Results → List Byte
  | .plant mode speed integral atLimit =>
    [flagByte [true, false, false, atLimit], byte mode.code] ++ be16 speed ++ be16 integral
  | .customer request cap target =>
    [flagByte [false, true, target.isSome, false]] ++ be16 request ++ be16 cap ++ be16 (target.getD 0 : Nat)

/-- The data of READ_FIGURES when a record is published. -/
def FiguresRecord.bytes (r : FiguresRecord) : List Byte :=
  let st := r.channelStates
  [1, byte r.stationState.code, r.role.code,
    flagByte (r.channels.toList.map (·.isSome)),
    byte (st.c0.code + 4 * st.c1.code + 16 * st.c2.code + 64 * st.c3.code)] ++
  r.channels.toList.flatMap (fun c => be16 (c.getD 0)) ++
  [flagByte [r.flow.isSome, r.dp.isSome, r.margin.isSome, r.deltaT.isSome],
    flagByte [r.ownIndex, r.selfAvailable, r.allAtLimit, r.starved, r.sensorFault, r.index.isNone]] ++
  be16 (r.flow.getD 0 : Nat) ++ be16 (r.dp.getD 0) ++ be16 (r.margin.getD 0) ++ be16 (r.deltaT.getD 0) ++
  be16 r.deficit ++ [byte r.candidateCount] ++ be16 ((r.index.map (·.1)).getD 0) ++
  [byte ((r.index.map (·.2)).getD 0), byte r.availableCount] ++ be32 r.totalFlow ++ be16 r.weightSum ++
  r.results.bytes

/-! ### Peers (R83, Table 11.9) -/

/-- An item of LIST_PEERS. -/
def Entry.item (e : Entry) : List Byte := [byte e.address, e.role.code, byte e.state.code, byte e.age]

/-- The data of READ_PEER when the entry exists. -/
def Entry.bytes (e : Entry) : List Byte :=
  [1, byte e.address, e.role.code, byte e.state.code, byte e.age, e.lastSequence, e.flags.toByte,
    presenceMask e.margin e.flow e.deltaT e.cap e.weight] ++
  be16 e.output ++ be16 (e.margin.getD 0) ++ be16 (e.flow.getD 0 : Nat) ++ be16 (e.deltaT.getD 0) ++
  be16 (e.cap.getD 0 : Nat) ++ [byte (e.weight.getD 0), byte e.gapCount] ++ be16 e.presentFor

/-- The data of LIST_PEERS. -/
def PeerTable.listBytes (t : PeerTable) : List Byte := byte t.entries.length :: t.entries.flatMap Entry.item

/-- The data of READ_COUNTERS. -/
def Counters.bytes (k : Counters) : List Byte := k.toList.flatMap (fun (n : Nat) => be16 n)

/-! ### The station record (R166, R171, Table 11.11) -/

/-- A channel block of 9 bytes. -/
def Channel.bytes (c : Channel) : List Byte :=
  [byte c.state.code, flagByte [c.raw.isSome, c.filtered.isSome]] ++ be16 ((c.raw.map (·.toNat)).getD 0 : Nat) ++
  be16 (c.filtered.getD 0) ++ be16 c.faultHold ++ [byte c.recovery]

/-- The pulse in flight, if any. -/
def ValveDrive.pulse (v : ValveDrive) : Option Pulse :=
  match v.drive with
  | .pulsing p => some p
  | .idle | .dwelling _ => none

/-- The waiting pulse, if any. -/
def ValveDrive.waitingPulse (v : ValveDrive) : Option Demand :=
  match v.drive with
  | .dwelling w => w
  | .idle | .pulsing _ => none

/-- The Valve Drive's fields, offsets 65..85 (R166). A pulse timer and a pulse length have 32 bits of ms in the record and
no bound in the manual, since a continued pulse keeps its timer (R157): the model's do not wrap, and what is above 32 bits
is not sent (DESIGN CHOICE, assumption log 29). -/
def ValveDrive.bytes (cfg : ConfigSet) (v : ValveDrive) : List Byte :=
  [flagByte [v.estimate.isSome, v.pulse.isSome, v.waitingPulse.isSome, v.pending.isSome, v.dwellReached cfg]] ++
  be16 (v.estimate.getD 0 : Nat) ++
  [byte v.drive.code, (v.pulse.map fun p => pulseCode p.direction p.kind).getD 0] ++
  be32 ((v.pulse.map (·.ms)).getD 0) ++ be32 ((v.pulse.map (·.length)).getD 0) ++
  [(v.waitingPulse.map fun w => pulseCode w.direction w.kind).getD 0] ++
  be32 ((v.waitingPulse.map (·.length)).getD 0) ++ be16 (v.pending.getD 0 : Nat) ++ [byte v.lastEnd.code]

/-- The station record. -/
def State.stationRecord (s : State) : List Byte :=
  [byte s.sc.address, s.sc.role.code, byte s.sc.state.code, byte s.sc.listenCount, byte s.sc.muteCount,
    flagByte [s.sc.firstReport, s.sc.available, s.fe.record.isSome, s.tableOpen]] ++
  be16 s.cfg.mTarget ++ be16 s.fe.request ++ [byte s.cu.state.code] ++
  s.mu.channels.toList.flatMap Channel.bytes ++
  [flagByte [s.fcu.seenEdge, s.fcu.lastPeriod.isSome]] ++ be32 (s.fcu.lastPeriod.getD 0) ++ be16 s.fcu.lastFlow ++
  [byte s.lu.receiver.code, byte s.lu.transmitter.code,
    flagByte [s.lu.reportSlot.isSome, s.lu.noticeSlot.isSome], s.lu.sequence,
    byte s.pt.entries.length, byte s.pt.queue.length, byte s.fe.mode.code] ++
  be16 s.fe.speed ++ be16 s.fe.cap ++ s.vd.bytes s.cfg ++ [s.sp.latches]

end Sys2Proof.Machine
end

