-- ==== Sys2Proof/Machine/Replies.lean ====
section
/-! DEFINITION. The reply of each host command (Table 10.1): its role and state tests, its own rule, its answer. -/

namespace Sys2Proof.Machine

/-- CONFIGURE once the station is in CONFIG (R4, R31, R36): a stored span unseeds its channel, and a stored
flow_timeout already elapsed times the FCU out at once. -/
def State.store (p : Param) (x : Int) (s : State) : State :=
  let s := { s with cfg := s.cfg.put p x }
  match p with
  | .chLo n | .chHi n => { s with mu.channels := s.mu.channels.set n (s.mu.channels.get n).unseed }
  | .flowTimeout => s.flowTimeoutIf (s.cfg.timeoutMicros ≤ s.fcu.elapsed)
  | _ => s

/-- CONFIGURE (R4, R180). -/
def replyConfigure (id : Byte) (value : Word16) : State → Reply :=
  takenIn [.config] fun s =>
    match Param.ofId id with
    | none => turnedAway .range s
    | some p => if p.inRange (p.valueOf value) then (.ok, s.store p (p.valueOf value)) else turnedAway .range s

/-- START (R6, R9). -/
def replyStart : State → Reply :=
  takenIn [.config] fun s => if s.cfg.relationsHold then (.ok, s.startStation) else turnedAway .range s

/-- SET_REQUEST (R139). -/
def replySetRequest (value : Word16) : State → Reply :=
  boundTo .customer fun s => (.ok, { s with fe.request := min 10000 value.toNat })

/-- SET_AVAILABLE (R170). -/
def replySetAvailable (value : Byte) : State → Reply :=
  boundTo .plant fun s =>
    if value = 0 then (.ok, { s with sc.available := false })
    else if value = 1 then (.ok, { s with sc.available := true })
    else turnedAway .range s

/-- SET_TARGET (R5, R180). -/
def replySetTarget (value : Word16) : State → Reply :=
  boundTo .plant fun s => (.ok, { s with cfg.mTarget := (clamp 0 5000 value.toInt).toNat })

/-- READ_STATION (R171). -/
def replyReadStation (s : State) : Reply := (⟨.done, s.stationRecord⟩, s)

/-- READ_FIGURES (R118, R172). -/
def replyReadFigures (s : State) : Reply :=
  match s.fe.record with
  | none => (⟨.done, [0]⟩, s)
  | some r => (⟨.done, r.bytes⟩, s)

/-- LIST_PEERS (R83). -/
def replyListPeers (s : State) : Reply := (⟨.done, s.pt.listBytes⟩, s)

/-- READ_PEER (R83, R180). -/
def replyReadPeer (address : Byte) (s : State) : Reply :=
  if 1 ≤ address.toNat ∧ address.toNat ≤ 32 then
    match s.pt.find address.toNat with
    | none => (⟨.done, [0]⟩, s)
    | some e => (⟨.done, e.bytes⟩, s)
  else turnedAway .range s

/-- READ_COUNTERS (R177). -/
def replyReadCounters (option : Byte) (s : State) : Reply :=
  if option = 0 then (⟨.done, s.sp.counters.bytes⟩, s)
  else if option = 1 then (⟨.done, s.sp.counters.bytes⟩, { s with sp.counters := Counters.zero })
  else turnedAway .range s

/-- ACK_LATCHES (R174). -/
def replyAckLatches (mask : Byte) (s : State) : Reply :=
  let left := s.sp.latches &&& ~~~mask
  (⟨.done, [left]⟩, { s with sp.latches := left })

/-- HOLD (R95). -/
def replyHold : State → Reply :=
  takenIn runningStates fun s =>
    match s.cu.state with
    | .opened => (.ok, { s with cu.state := .held })
    | .calc _ => turnedAway .retry s
    | .held | .heldPending => (.ok, s)

/-- RELEASE (R96). -/
def replyRelease : State → Reply :=
  takenIn runningStates fun s =>
    match s.cu.state with
    | .held => (.ok, s.openTable)
    | .heldPending => (.ok, s.agingPass.startComputation)
    | .opened | .calc _ => turnedAway .state s

/-- RESEEK (R164). -/
def replyReseek : State → Reply :=
  boundTo .customer <| takenIn runningStates fun s =>
    if s.vd.seeking then turnedAway .retry s else (.ok, { s with vd := s.vd.beginSeek s.cfg })

/-- LEAVE (R15). -/
def replyLeave : State → Reply := takenIn [.listen, .active, .muted] fun s => (.ok, s.leaveNetwork)

/-- REJOIN (R18). -/
def replyRejoin : State → Reply := takenIn [.quiet] fun s => (.ok, s.rejoinNetwork)

/-- RESTART (R19). -/
def replyRestart : State → Reply := takenIn runningStates fun s => (.ok, s.softRestart)

/-- The reply of a command that passed the first three tests of R168. Rows that are no host command are spelled by no
code byte (Table 11.6). -/
def replyOf : Instr → State → Reply
  | .configure id v => replyConfigure id v
  | .start => replyStart
  | .setRequest v => replySetRequest v
  | .setAvailable v => replySetAvailable v
  | .setTarget v => replySetTarget v
  | .readStation => replyReadStation
  | .readFigures => replyReadFigures
  | .listPeers => replyListPeers
  | .readPeer a => replyReadPeer a
  | .readCounters o => replyReadCounters o
  | .ackLatches m => replyAckLatches m
  | .hold => replyHold
  | .release => replyRelease
  | .reseek => replyReseek
  | .leave => replyLeave
  | .rejoin => replyRejoin
  | .restart => replyRestart
  | .hardReset | .unknownCommand _ | .conversionCompletion _ | .channelAbsent _ _ | .channelRecovered _ _
  | .flowCapture _ | .flowTimeout | .quietTimeIdle | .rxFormatFault _ | .frameComplete _ | .accessGapComplete
  | .collision | .frameAbandoned | .frameSent | .boundary | .computationCompletion | .enterFallback | .enterActive
  | .entryStale _ | .entryRemoved _ | .pulseEnd | .dwellEnd | .seekEnd | .characterCompleted _ | .lineBusy
  | .flowinLowAccepted | .selectPeriodBegin | .endOfHardReset _ _ _ _ => turnedAway .unknown

/-- The end of a select period that shifted in these bytes (R167, R168, R169). -/
def State.periodEnd (bytes : List Byte) (s : State) : State :=
  match portEvent bytes with
  | .nothing => s.deselect
  | .refuse st => s.portCommand (turnedAway st)
  | .command c => s.portCommand (replyOf c)

end Sys2Proof.Machine
end

