-- ==== Sys2Proof/Machine/PortCommands.lean ====
section
/-! DEFINITION. The meanings of the supervisory port's rows (chapter 10): the beginning of a select period, and its end
with each command. -/

namespace Sys2Proof.Machine

/-- SELECT_PERIOD_BEGIN: SSN goes low (R167). While SSN is low already it cannot fall. -/
def execSelectPeriodBegin (s : State) : Result :=
  s.event fun s => if s.sp.ssnHigh then { s with sp.select := some [], sp.ssnHigh := false } else s

/-- UNKNOWN_COMMAND: a select period ends with these levels of SDI shifted in (R167, R168). Bits that spell a command
that passes the first three tests of R168 are that command (assumption log 9). -/
def execUnknownCommand (bits : List Bool) (s : State) : Result :=
  s.event fun s => s.periodEnd (s.sp.select.getD [] ++ assembleBytes bits)

/-- CONFIGURE (R4). -/
def execConfigure (id : Byte) (value : Word16) (s : State) : Result := s.event (State.portCommand (replyConfigure id value))

/-- START (R6, R9). -/
def execStart (s : State) : Result := s.event (State.portCommand replyStart)

/-- SET_REQUEST (R139). -/
def execSetRequest (value : Word16) (s : State) : Result := s.event (State.portCommand (replySetRequest value))

/-- SET_AVAILABLE (R170). -/
def execSetAvailable (value : Byte) (s : State) : Result := s.event (State.portCommand (replySetAvailable value))

/-- SET_TARGET (R5). -/
def execSetTarget (value : Word16) (s : State) : Result := s.event (State.portCommand (replySetTarget value))

/-- READ_STATION (R171). -/
def execReadStation (s : State) : Result := s.event (State.portCommand replyReadStation)

/-- READ_FIGURES (R118, R172). -/
def execReadFigures (s : State) : Result := s.event (State.portCommand replyReadFigures)

/-- LIST_PEERS (R83). -/
def execListPeers (s : State) : Result := s.event (State.portCommand replyListPeers)

/-- READ_PEER (R83). -/
def execReadPeer (address : Byte) (s : State) : Result := s.event (State.portCommand (replyReadPeer address))

/-- READ_COUNTERS (R177). -/
def execReadCounters (option : Byte) (s : State) : Result := s.event (State.portCommand (replyReadCounters option))

/-- ACK_LATCHES (R174). -/
def execAckLatches (mask : Byte) (s : State) : Result := s.event (State.portCommand (replyAckLatches mask))

/-- HOLD (R95). -/
def execHold (s : State) : Result := s.event (State.portCommand replyHold)

/-- RELEASE (R96). -/
def execRelease (s : State) : Result := s.event (State.portCommand replyRelease)

/-- RESEEK (R164). -/
def execReseek (s : State) : Result := s.event (State.portCommand replyReseek)

/-- LEAVE (R15). -/
def execLeave (s : State) : Result := s.event (State.portCommand replyLeave)

/-- REJOIN (R18). -/
def execRejoin (s : State) : Result := s.event (State.portCommand replyRejoin)

/-- RESTART (R19). -/
def execRestart (s : State) : Result := s.event (State.portCommand replyRestart)

end Sys2Proof.Machine
end

