-- ==== Sys2Proof/Machine/Dispatch.lean ====
section
/-! DEFINITION. The dispatch of the commands: one arm for each row of spec/opcode_table.json, in the table's order. -/

namespace Sys2Proof.Machine

def exec (i : Instr) (s : State) : Host.Outcome State Fault Refusal :=
  match i with
  | .hardReset => Sys2Proof.Machine.execHardReset s
  | .configure id value => Sys2Proof.Machine.execConfigure id value s
  | .start => Sys2Proof.Machine.execStart s
  | .setRequest value => Sys2Proof.Machine.execSetRequest value s
  | .setAvailable value => Sys2Proof.Machine.execSetAvailable value s
  | .setTarget value => Sys2Proof.Machine.execSetTarget value s
  | .readStation => Sys2Proof.Machine.execReadStation s
  | .readFigures => Sys2Proof.Machine.execReadFigures s
  | .listPeers => Sys2Proof.Machine.execListPeers s
  | .readPeer address => Sys2Proof.Machine.execReadPeer address s
  | .readCounters option => Sys2Proof.Machine.execReadCounters option s
  | .ackLatches mask => Sys2Proof.Machine.execAckLatches mask s
  | .hold => Sys2Proof.Machine.execHold s
  | .release => Sys2Proof.Machine.execRelease s
  | .reseek => Sys2Proof.Machine.execReseek s
  | .leave => Sys2Proof.Machine.execLeave s
  | .rejoin => Sys2Proof.Machine.execRejoin s
  | .restart => Sys2Proof.Machine.execRestart s
  | .unknownCommand bits => Sys2Proof.Machine.execUnknownCommand bits s
  | .conversionCompletion code => Sys2Proof.Machine.execConversionCompletion code s
  | .channelAbsent channel code => Sys2Proof.Machine.execChannelAbsent channel code s
  | .channelRecovered channel code => Sys2Proof.Machine.execChannelRecovered channel code s
  | .flowCapture counter => Sys2Proof.Machine.execFlowCapture counter s
  | .flowTimeout => Sys2Proof.Machine.execFlowTimeout s
  | .quietTimeIdle => Sys2Proof.Machine.execQuietTimeIdle s
  | .rxFormatFault fault => Sys2Proof.Machine.execRxFormatFault fault s
  | .frameComplete lastCharacter => Sys2Proof.Machine.execFrameComplete lastCharacter s
  | .accessGapComplete => Sys2Proof.Machine.execAccessGapComplete s
  | .collision => Sys2Proof.Machine.execCollision s
  | .frameAbandoned => Sys2Proof.Machine.execFrameAbandoned s
  | .frameSent => Sys2Proof.Machine.execFrameSent s
  | .boundary => Sys2Proof.Machine.execBoundary s
  | .computationCompletion => Sys2Proof.Machine.execComputationCompletion s
  | .enterFallback => Sys2Proof.Machine.execEnterFallback s
  | .enterActive => Sys2Proof.Machine.execEnterActive s
  | .entryStale address => Sys2Proof.Machine.execEntryStale address s
  | .entryRemoved address => Sys2Proof.Machine.execEntryRemoved address s
  | .pulseEnd => Sys2Proof.Machine.execPulseEnd s
  | .dwellEnd => Sys2Proof.Machine.execDwellEnd s
  | .seekEnd => Sys2Proof.Machine.execSeekEnd s
  | .characterCompleted value => Sys2Proof.Machine.execCharacterCompleted value s
  | .lineBusy => Sys2Proof.Machine.execLineBusy s
  | .flowinLowAccepted => Sys2Proof.Machine.execFlowinLowAccepted s
  | .selectPeriodBegin => Sys2Proof.Machine.execSelectPeriodBegin s
  | .endOfHardReset addrCode roleHigh flowinHigh ssnHigh => Sys2Proof.Machine.execEndOfHardReset addrCode roleHigh flowinHigh ssnHigh s

end Sys2Proof.Machine
end

