-- ==== Sys2Proof/Machine/Idle.lean ====
section
/-! DEFINITION. What the part does when no command waits (assumption log 2): a timed event whose moment has come is
taken; if none is due, one period of the clock on XIN passes. -/

namespace Sys2Proof.Machine

/-- Whether the cycle timer has reached cycle_period outside CALC (R85, R86). -/
def State.boundaryDue (s : State) : Bool :=
  match s.cu.state with
  | .calc _ => false
  | .opened | .held | .heldPending => s.cu.timer.any (fun t => s.cfg.cyclePeriod * msClocks ≤ t)

/-- Whether the computation in CALC has come to its completion (R86). -/
def State.completionDue (s : State) : Bool :=
  match s.cu.state with
  | .calc _ => s.cu.timer.any (fun t => s.computationClocks ≤ t)
  | .opened | .held | .heldPending => false

/-- Whether the FCU times out (R36). -/
def State.flowTimeoutDue (s : State) : Bool := s.fcu.seenEdge && s.cfg.timeoutMicros ≤ s.fcu.elapsed

/-- Whether the line has become idle for a receiver that waits for it (R50). -/
def State.idleLineDue (s : State) : Bool :=
  match s.lu.receiver with
  | .collect _ _ | .discard => idleClocks ≤ s.lu.quiet
  | .off | .hunt => false

/-- Whether the waiting frame's access gap is complete (R56). -/
def State.accessGapDue (s : State) : Bool :=
  match s.lu.transmitter with
  | .waiting slot k gap => (s.lu.slot slot).isSome && gapClocks k ≤ gap
  | .idle | .sending _ _ => false

/-- Whether a trim or end pulse has run its length (R160). -/
def State.pulseEndDue (s : State) : Bool :=
  s.vd.pulse.any (fun p => p.kind != .seek && p.length * msClocks ≤ p.timer)

/-- Whether a seek has run its length (R163). -/
def State.seekEndDue (s : State) : Bool :=
  s.vd.pulse.any (fun p => p.kind == .seek && p.length * msClocks ≤ p.timer)

/-- Whether the Valve Drive leaves DWELL (R161). -/
def State.dwellEndDue (s : State) : Bool :=
  match s.vd.drive with
  | .dwelling _ => s.vd.dwellReached s.cfg
  | .idle | .pulsing _ => false

/-- The timed events that are due now: those that need nothing from outside. -/
def State.dueEvents (s : State) : List Instr :=
  [(s.boundaryDue, Instr.boundary), (s.completionDue, .computationCompletion), (s.flowTimeoutDue, .flowTimeout),
   (s.idleLineDue, .quietTimeIdle), (s.accessGapDue, .accessGapComplete), (s.pulseEndDue, .pulseEnd),
   (s.seekEndDue, .seekEnd), (s.dwellEndDue, .dwellEnd)].filterMap fun p => if p.1 then some p.2 else none

/-- A step with no command waiting. Of several events due together the manual fixes no first one: a free value chooses
(assumption log 3). In hard reset nothing moves. -/
def State.idle (s : State) : Result :=
  if s.inReset then .next s
  else match s.dueEvents with
    | [] => .next (s.pass 1)
    | [c] => exec c s
    | c :: cs => exec ((c :: cs).getD (Config.tieBreak s.ties % (cs.length + 1)) c) { s with ties := s.ties + 1 }

end Sys2Proof.Machine
end

