-- ==== Sys2Proof/Safety.lean ====
section
/-! DEFINITION. What counts as a lawful state of the DC412, in the terms the statements use: the laws the manual states
of every moment (R14, R24, R54, R64, R65, R71, R79, R128, R131, R144, R153, R176), each with the facts about the
configuration and the station state that keep it, the hard reset values, the tables of the parameters and of the command
codes, and the shapes of an answered select period and of a record's bytes. -/

namespace Sys2Proof.Machine

/-! ### Shapes the statements share -/

/-- The part is out of hard reset and a select period is in progress, so that a command can be taken (R7, R167). -/
abbrev State.selected (s : State) : Prop := s.inReset = false ∧ s.sp.select.isSome = true

/-- The same machine after the end of a select period whose command was answered so, and that moved nothing else (R167,
R169). -/
def State.answered (s : State) (status : Status) (data : List Byte) : State :=
  { s with sp := { s.sp with response := ⟨status, data⟩, select := none, ssnHigh := true } }

/-- What the computation in progress took in, if one is in progress. -/
def CycleState.taken : CycleState → Option Taken
  | .calc t => some t
  | .opened | .held | .heldPending => none

/-- A running station state (Table 1.3). -/
abbrev StationState.runs (x : StationState) : Prop := x ≠ .config

/-- The rows of the table that are host commands (Table 10.1), with their roles and the states that take them. -/
def takenRoleStates : Instr → Option (Option Role × List StationState)
  | .configure _ _ | .start => some (none, [.config])
  | .setRequest _ => some (some .customer, [.config, .listen, .active, .muted, .quiet])
  | .setAvailable _ | .setTarget _ => some (some .plant, [.config, .listen, .active, .muted, .quiet])
  | .readStation | .readFigures | .listPeers | .readPeer _ | .readCounters _ | .ackLatches _ =>
    some (none, [.config, .listen, .active, .muted, .quiet])
  | .hold | .release | .restart => some (none, [.listen, .active, .muted, .quiet])
  | .reseek => some (some .customer, [.listen, .active, .muted, .quiet])
  | .leave => some (none, [.listen, .active, .muted])
  | .rejoin => some (none, [.quiet])
  | .hardReset | .unknownCommand _ | .conversionCompletion _ | .channelAbsent _ _ | .channelRecovered _ _
  | .flowCapture _ | .flowTimeout | .quietTimeIdle | .rxFormatFault _ | .frameComplete _ | .accessGapComplete
  | .collision | .frameAbandoned | .frameSent | .boundary | .computationCompletion | .enterFallback | .enterActive
  | .entryStale _ | .entryRemoved _ | .pulseEnd | .dwellEnd | .seekEnd | .characterCompleted _ | .lineBusy
  | .flowinLowAccepted | .selectPeriodBegin | .endOfHardReset _ _ _ _ => none

/-- Table 11.6: the code bytes and their parameter counts. -/
def commandCodes : List (Byte × Nat) :=
  [(0x10, 3), (0x11, 0), (0x20, 2), (0x21, 1), (0x22, 2), (0x30, 0), (0x31, 0), (0x32, 0), (0x33, 1), (0x34, 1),
   (0x35, 1), (0x40, 0), (0x41, 0), (0x42, 0), (0x50, 0), (0x51, 0), (0x52, 0)]

/-- Tables 11.7 and 1.1: each parameter's identifier, the parameter, the ends of its range, and its default. Of
cycle_period only the multiples of 250 lie in the range (R4). -/
def parameterTable : List (Byte × Param × Int × Int × Int) :=
  [(0x01, .cyclePeriod, 250, 4000, 1000), (0x02, .staleLimit, 2, 15, 3), (0x03, .filterShift, 0, 7, 3),
   (0x04, .flowVp, 0, 65535, 0), (0x05, .flowTimeout, 1, 60, 10), (0x06, .dtDesign, 100, 2000, 700),
   (0x10, .chLo 0, -32768, 32767, 0), (0x11, .chHi 0, -32768, 32767, 16000),
   (0x12, .chLo 1, -32768, 32767, 0), (0x13, .chHi 1, -32768, 32767, 16000),
   (0x14, .chLo 2, -32768, 32767, 0), (0x15, .chHi 2, -32768, 32767, 2500),
   (0x16, .chLo 3, -32768, 32767, 0), (0x17, .chHi 3, -32768, 32767, 2500),
   (0x20, .mTarget, 0, 5000, 100), (0x21, .kp, 0, 255, 32), (0x22, .ki, 0, 255, 16), (0x23, .ks, 0, 255, 64),
   (0x24, .weight, 1, 255, 1), (0x25, .speedMin, 0, 10000, 3000), (0x26, .speedMax, 0, 10000, 10000),
   (0x27, .ramp, 1, 2000, 200), (0x28, .fallbackSpeed, 0, 10000, 7000), (0x29, .hdrDpMax, 0, 32767, 32767),
   (0x30, .dpReq, 0, 5000, 800), (0x31, .yieldGain, 0, 255, 40), (0x32, .yieldShift, 0, 15, 4),
   (0x33, .stepMax, 1, 2000, 1000), (0x34, .relax, 1, 2000, 100), (0x35, .capFloor, 0, 10000, 2000),
   (0x40, .travelTime, 10, 600, 120), (0x41, .deadband, 0, 500, 100), (0x42, .minPulse, 50, 500, 100),
   (0x43, .dwell, 200, 2000, 500)]

/-- The rows that are a boundary when they happen (R88, assumption log 6). -/
abbrev boundaryRow (c : Instr) : Prop := c = .boundary ∨ (∃ a, c = .entryStale a) ∨ ∃ a, c = .entryRemoved a

/-- The rows that are a computation completion when they happen (R93, assumption log 6). -/
abbrev completionRow (c : Instr) : Prop := c = .computationCompletion ∨ c = .enterActive ∨ c = .enterFallback

/-- The quantity in n bytes of a record from an offset on, most significant byte first (chapter 11). -/
def valueAt (bs : List Byte) (offset n : Nat) : Nat :=
  ((bs.drop offset).take n).foldl (fun v b => 256 * v + b.toNat) 0

/-- The byte at an offset of a record holds these flags, from bit 0 on, and its other bits are clear (assumption
log 28). -/
abbrev flagsAt (bs : List Byte) (offset : Nat) (flags : List Bool) : Prop :=
  ∀ k < 8, (bs.getD offset 0).getLsbD k = flags.getD k false

/-- One pass of R78 over the entries, for a stale_limit: age and present-for rise, an entry of age stale_limit or more is
STALE, and one that reaches 2 × stale_limit is gone. -/
def passOver (limit : Nat) (es : List Entry) : List Entry :=
  es.filterMap fun e =>
    if e.age + 1 < 2 * limit then
      some { e with
        age := e.age + 1
        presentFor := min 65535 (e.presentFor + 1)
        state := if limit ≤ e.age + 1 then .stale else e.state }
    else none

/-- Whether a pass over these entries removes one whose address satisfies a condition (R80). -/
def passRemoves (limit : Nat) (es : List Entry) (named : Nat → Bool) : Bool :=
  es.any fun e => 2 * limit ≤ e.age + 1 && named e.address

/-- The wait a transmitter begins when it serves what the slots hold: the notice before the report, with k of R56, from a
gap of zero; IDLE when both are empty (R54 to R56). -/
def servedBy (address : Nat) (notice report : Option Outgoing) : Transmitter :=
  match notice, report with
  | some o, _ => .waiting .notice ((address + 5 * o.attempt + o.frame.sequence.toNat) % 16) 0
  | none, some o => .waiting .report ((address + 5 * o.attempt + o.frame.sequence.toNat) % 16) 0
  | none, none => .idle

/-- A count after n more events (R176). -/
def counted (n count : Nat) : Nat := if n = 0 then count else min 65535 (count + n)

/-- 1 where a condition holds, else 0. -/
def oneIf (b : Bool) : Nat := if b then 1 else 0

/-! ### Frames and entries that the manual allows -/

/-- A report every part of which the format check lets pass (R51): what a station may send and a table may hold. -/
abbrev Report.lawful (r : Report) : Prop :=
  1 ≤ r.source ∧ r.source ≤ 32 ∧ r.output ≤ 10000 ∧
  (∀ m ∈ r.margin, -32768 ≤ m ∧ m ≤ 32767) ∧ (∀ f ∈ r.flow, f ≤ 65535) ∧
  (∀ d ∈ r.deltaT, -32768 ≤ d ∧ d ≤ 32767) ∧ (∀ c ∈ r.cap, c ≤ 9999) ∧
  (∀ w ∈ r.weight, 1 ≤ w ∧ w ≤ 255) ∧
  (r.role = .customer → r.weight = none) ∧
  (r.role = .plant → r.margin = none ∧ r.cap = none ∧ r.weight.isSome = true)

/-- A notice whose source is an address. -/
abbrev Notice.lawful (n : Notice) : Prop := 1 ≤ n.source ∧ n.source ≤ 32

/-- A frame of either kind that passes the format check. -/
def Frame.lawful : Frame → Prop
  | .report r => r.lawful
  | .notice n => n.lawful

/-- An entry whose fields lie in the ranges of Table 4.1 and fit its role (R65). -/
abbrev Entry.lawful (e : Entry) : Prop :=
  e.output ≤ 10000 ∧ (∀ m ∈ e.margin, -32768 ≤ m ∧ m ≤ 32767) ∧ (∀ f ∈ e.flow, f ≤ 65535) ∧
  (∀ d ∈ e.deltaT, -32768 ≤ d ∧ d ≤ 32767) ∧ (∀ c ∈ e.cap, c ≤ 9999) ∧ (∀ w ∈ e.weight, 1 ≤ w ∧ w ≤ 255) ∧
  e.gapCount ≤ 255 ∧ e.presentFor ≤ 65535 ∧
  (e.role = .customer → e.weight = none) ∧
  (e.role = .plant → e.margin = none ∧ e.cap = none ∧ e.weight.isSome = true)

/-- Every entry fits its role, and every waiting frame is one the format check let pass (R65). -/
def State.entryLaw (s : State) : Prop :=
  (∀ e ∈ s.pt.entries, e.lawful) ∧ (∀ f ∈ s.pt.queue, f.lawful)

/-! ### The laws of every moment -/

/-- Of the Peer Table and the Inbound Queue: the entries stand in ascending order of address, none is the station's own
(R64); an age is below 2 × stale_limit, and an entry is STALE exactly from stale_limit on (R79); the queue holds at most 8
frames, at most one from each source, and none while the table is open (R71). Kept by: a stale_limit of at least 2, and
a station in CONFIG, as it is throughout hard reset, that hears nothing and has no entries. -/
abbrev State.tableLaw (s : State) : Prop :=
  s.pt.entries.Pairwise (fun a b => a.address < b.address) ∧
  (∀ e ∈ s.pt.entries, 1 ≤ e.address ∧ e.address ≤ 32 ∧ e.address ≠ s.sc.address) ∧
  (∀ e ∈ s.pt.entries, e.age < 2 * s.cfg.staleLimit ∧ (e.state = .stale ↔ s.cfg.staleLimit ≤ e.age)) ∧
  s.pt.queue.length ≤ 8 ∧ (s.pt.queue.map Frame.source).Nodup ∧
  (∀ f ∈ s.pt.queue, 1 ≤ f.source ∧ f.source ≤ 32 ∧ f.source ≠ s.sc.address) ∧
  (s.tableOpen = true → s.pt.queue = []) ∧
  2 ≤ s.cfg.staleLimit ∧
  (s.sc.state = .config → s.lu.receiver = .off ∧ s.cu = ⟨none, .opened⟩ ∧ s.pt.entries = []) ∧
  (s.inReset = true → s.sc.state = .config)

/-- Of the configuration set: every parameter lies in its range, and in a running station the relations of START hold
(R4, R6). -/
def State.configLaw (s : State) : Prop :=
  (∀ p : Param, p.inRange (s.cfg.value p) = true) ∧ (s.sc.state.runs → s.cfg.relationsHold = true)

/-- A speed within the plant's limits. -/
abbrev ConfigSet.speedOk (c : ConfigSet) (speed : Nat) : Prop := c.speedMin ≤ speed ∧ speed ≤ c.speedMax

/-- Of the plant: the speed command is 0 or lies in speed_min..speed_max, the Plant Drive has it as its command (R131),
and the integral lies in 0..10000 (R128). Kept by: a running mode has a speed within the limits and STOPPED has the speed
0; a computation took in the speed and the integral that still stand, with a mode of which the same holds; the speed
limits are in order in a running station; and a station in CONFIG runs no cycle and is STOPPED at 0. -/
abbrev State.speedLaw (s : State) : Prop :=
  (s.fe.speed = 0 ∨ s.cfg.speedOk s.fe.speed) ∧ s.pd.command = s.fe.speed ∧ s.fe.integral ≤ 10000 ∧
  (s.fe.mode.running = true → s.cfg.speedOk s.fe.speed) ∧ (s.fe.mode = .stopped → s.fe.speed = 0) ∧
  (∀ t ∈ s.cu.state.taken, t.speed = s.fe.speed ∧ t.integral = s.fe.integral ∧
    (t.mode.running = true → s.cfg.speedOk t.speed) ∧ (t.mode = .stopped → t.speed = 0)) ∧
  s.cfg.speedMax ≤ 10000 ∧
  (s.sc.state.runs → s.cfg.speedMin ≤ s.cfg.fallbackSpeed ∧ s.cfg.fallbackSpeed ≤ s.cfg.speedMax) ∧
  (s.sc.state = .config → s.cu = ⟨none, .opened⟩ ∧ s.fe.mode = .stopped ∧ s.fe.speed = 0) ∧
  (s.inReset = true → s.sc.state = .config)

/-- Of the customer: the yield cap lies in [cap_floor, 10000] (R144), and the stored request in 0..10000 (R138). Kept by:
a computation took in the cap that still stands and a request of at most 10000; and the cap is 10000 in CONFIG. -/
abbrev State.yieldLaw (s : State) : Prop :=
  s.cfg.capFloor ≤ s.fe.cap ∧ s.fe.cap ≤ 10000 ∧ s.fe.request ≤ 10000 ∧
  (∀ t ∈ s.cu.state.taken, t.cap = s.fe.cap ∧ t.request ≤ 10000) ∧
  (s.sc.state = .config → s.fe.cap = 10000)

/-- Of the Valve Drive: a known estimate lies in 0..10000 (R153), and so does the estimate a pulse in flight started
from. -/
abbrev State.valveLaw (s : State) : Prop :=
  (∀ e ∈ s.vd.estimate, e ≤ 10000) ∧ (∀ p ∈ s.vd.pulse, ∀ e ∈ p.start, e ≤ 10000)

/-- Of the station states and the link (R7, R11, R13, R14, R54): the listen count is 1 or 2 in LISTEN and 0 elsewhere, and
the mute count 1..8 in MUTED and 0 elsewhere; a report waits in its slot or is in flight only in ACTIVE, and a notice only
in QUIET; each slot holds a frame of its kind with an attempt count below 6; the transmitter waits on a slot that holds a
frame, and is IDLE only with both slots empty. -/
abbrev State.stationLaw (s : State) : Prop :=
  (if s.sc.state = .listen then 1 ≤ s.sc.listenCount ∧ s.sc.listenCount ≤ 2 else s.sc.listenCount = 0) ∧
  (if s.sc.state = .muted then 1 ≤ s.sc.muteCount ∧ s.sc.muteCount ≤ 8 else s.sc.muteCount = 0) ∧
  (s.lu.reportSlot.isSome = true ∨ s.lu.transmitter.inFlightFrom .report = true → s.sc.state = .active) ∧
  (s.lu.noticeSlot.isSome = true ∨ s.lu.transmitter.inFlightFrom .notice = true → s.sc.state = .quiet) ∧
  (∀ o ∈ s.lu.reportSlot, o.frame.slot = .report ∧ o.attempt < 6) ∧
  (∀ o ∈ s.lu.noticeSlot, o.frame.slot = .notice ∧ o.attempt < 6) ∧
  (match s.lu.transmitter with
    | .idle => s.lu.reportSlot = none ∧ s.lu.noticeSlot = none
    | .waiting slot _ _ => (s.lu.slot slot).isSome = true
    | .sending o _ => o.attempt < 6)

/-- Of a channel record (section 2.1, R24 to R29): the filtered value is present in VALID and FAULT_HOLD alone and lies in
the signed 16-bit range; the fault-hold count is below 300 and the recovery count below 10; both are 0 in UNSEEDED and
VALID, exactly one is 0 in FAULT_HOLD, and the fault-hold count is 0 in ABSENT; outside UNSEEDED there is a raw code. -/
abbrev Channel.lawful (c : Channel) : Prop :=
  (c.filtered.isSome = true ↔ c.state = .valid ∨ c.state = .faultHold) ∧
  (∀ f ∈ c.filtered, -32768 ≤ f ∧ f ≤ 32767) ∧ c.faultHold < 300 ∧ c.recovery < 10 ∧
  (match c.state with
    | .unseeded | .valid => c.faultHold = 0 ∧ c.recovery = 0
    | .faultHold => c.faultHold = 0 ↔ c.recovery ≠ 0
    | .absent => c.faultHold = 0) ∧
  (c.state ≠ .unseeded → c.raw.isSome = true)

/-- Of the Measurement Unit: every channel record is lawful. -/
def State.channelLaw (s : State) : Prop := ∀ n, (s.mu.channels.get n).lawful

/-- Of the counters: none is above 65535 (R176). -/
abbrev State.counterLaw (s : State) : Prop := ∀ n ∈ s.sp.counters.toList, n ≤ 65535

/-! ### Hard reset (R3, R5, R7, R25, R38, R54, R84, R87, R117, R119, R138, R151, R178) -/

/-- The state that hard reset puts the blocks into. -/
abbrev State.atHardReset (s : State) : Prop :=
  s.inReset = true ∧ s.cfg = ConfigSet.defaults ∧
  (s.sc.state = .config ∧ s.sc.listenCount = 0 ∧ s.sc.muteCount = 0 ∧ s.sc.firstReport = false ∧
    s.sc.available = false) ∧
  (s.mu.channels = ⟨⟨none, .unseeded, none, 0, 0⟩, ⟨none, .unseeded, none, 0, 0⟩, ⟨none, .unseeded, none, 0, 0⟩,
    ⟨none, .unseeded, none, 0, 0⟩⟩ ∧ s.mu.rotation = 0) ∧
  (s.fcu.counter = 0 ∧ s.fcu.lastCapture = none ∧ s.fcu.lastPeriod = none ∧ s.fcu.seenEdge = false ∧
    s.fcu.lastFlow = 0) ∧
  (s.lu.receiver = .off ∧ s.lu.transmitter = .idle ∧ s.lu.reportSlot = none ∧ s.lu.noticeSlot = none ∧
    s.lu.sequence = 0 ∧ s.lu.quiet = 0) ∧
  (s.pt.entries = [] ∧ s.pt.queue = []) ∧ (s.cu.timer = none ∧ s.cu.state = .opened) ∧
  (s.fe.record = none ∧ s.fe.mode = .stopped ∧ s.fe.speed = 0 ∧ s.fe.integral = 0 ∧ s.fe.atLimit = false ∧
    s.fe.holdingCount = 0 ∧ s.fe.request = 0 ∧ s.fe.cap = 10000 ∧ s.fe.lastStarved = false) ∧
  s.pd.command = 0 ∧
  (s.vd.estimate = none ∧ s.vd.drive = .idle ∧ s.vd.pending = none ∧ s.vd.lastEnd = .both ∧ s.vd.dwellTimer = 0) ∧
  (s.sp.response = ⟨.done, []⟩ ∧ s.sp.latches = 0 ∧ s.sp.counters = ⟨0, 0, 0, 0, 0, 0, 0, 0, 0, 0, 0, 0, 0⟩ ∧
    s.sp.select = none)

/-- The levels of the output pins while the part is in hard reset (R7, R40, R175, R178). -/
abbrev State.released (s : State) : Prop :=
  s.outA = false ∧ s.outB = false ∧ s.ltx = true ∧ s.attn = false ∧ ∀ n, s.sdo n = none

end Sys2Proof.Machine
end

