-- ==== Sys2Proof/WellFormed.lean ====
section
/-! DEFINITION. Which commands say what their row says: the operands of a well-formed command are such that the row's
own name fits them. A command that is not well-formed changes nothing when it is run (assumption log 7), except that
an UNKNOWN_COMMAND whose bits spell a command is that command (assumption log 9). -/

namespace Sys2Proof

/-- A station address (R1, R42). -/
def isAddress (a : Byte) : Bool := 1 ≤ a.toNat && a.toNat ≤ 32

/-- The checks on a command's operands, row by row. -/
def Instr.wellFormed : Instr → Bool
  /- R168: the period carries no command, or one that fails one of the first three tests -/
  | .unknownCommand bits =>
    match Machine.portEvent (Machine.assembleBytes bits) with
    | .command _ => false
    | _ => true
  /- R27, R28: a fault code takes a channel to ABSENT -/
  | .channelAbsent _ code => (Machine.scalingCode code).isNone
  /- R27, R29: a valid code brings a channel back -/
  | .channelRecovered _ code => (Machine.scalingCode code).isSome
  /- R50: a length outside 3..16 -/
  | .rxFormatFault (.length l) => l.toNat < 3 || 16 < l.toNat
  /- R64: entries are keyed by addresses 1..32 -/
  | .entryStale a => isAddress a
  | .entryRemoved a => isAddress a
  | .rxFormatFault .framing | .hardReset | .configure _ _ | .start | .setRequest _ | .setAvailable _ | .setTarget _
  | .readStation | .readFigures | .listPeers | .readPeer _ | .readCounters _ | .ackLatches _ | .hold | .release
  | .reseek | .leave | .rejoin | .restart | .conversionCompletion _ | .flowCapture _ | .flowTimeout | .quietTimeIdle
  | .frameComplete _ | .accessGapComplete | .collision | .frameAbandoned | .frameSent | .boundary
  | .computationCompletion | .enterFallback | .enterActive | .pulseEnd | .dwellEnd | .seekEnd | .characterCompleted _
  | .lineBusy | .flowinLowAccepted | .selectPeriodBegin | .endOfHardReset _ _ _ _ => true

end Sys2Proof
end

