-- ==== Sys2Proof/Certificates/Slice0/Obligations.lean ====
section
/-! DEFINITION. The statements about the DC412. Each docstring names the rules it formalises; a clause that rests on a
choice of the model names its log entry. -/

open Sys2Proof Sys2Proof.Machine

/-! ### The machine -/

/-- A step takes the command at the front of the queue and runs it on the state with the queue's rest. The queue is the
model's own (assumption log 1). -/
def Obligations.StepRunsCommandAtFront : Prop :=
  ∀ (s : State) (c : Instr) (rest : List Instr), s.pending = c :: rest → step s = exec c { s with pending := rest }

/-- With no command waiting, the part in hard reset stays as it is; otherwise one clock period passes when no timed event
is due, and one of the due events is taken when some are (assumption log 2 and 3: which one, R13, R20 and R97 leave
open). Eight events can be due: a boundary when the cycle timer has reached cycle_period outside CALC (R85, R86), a completion
in CALC when it has reached 2 ms and 1 ms for each entry (R86), the flow timeout (R36), an idle line for a receiver in COLLECT
or DISCARD after 2 C (R40, R50), a complete access gap (R56), the end of a pulse or a seek at its length (R160, R163), and the
end of DWELL when the dwell timer has reached dwell (R161). Link times are rounded up to a whole clock period (assumption log
14); FRAME_SENT and CONVERSION_COMPLETION are never due of themselves (assumption log 27). -/
def Obligations.EmptyQueueIdles : Prop :=
  ∀ s : State, s.pending = [] →
    (s.inReset = true → step s = .next s) ∧
    (s.inReset = false → s.dueEvents = [] → step s = .next (s.pass 1)) ∧
    (s.inReset = false → s.dueEvents ≠ [] → ∃ c ∈ s.dueEvents, ∃ n, step s = exec c { s with ties := n }) ∧
    (∀ c ∈ s.dueEvents, c ∈ [Instr.boundary, .computationCompletion, .flowTimeout, .quietTimeIdle, .accessGapComplete,
      .pulseEnd, .seekEnd, .dwellEnd]) ∧
    (Instr.boundary ∈ s.dueEvents ↔ (∀ k, s.cu.state ≠ .calc k) ∧
      ∃ τ, s.cu.timer = some τ ∧ s.cfg.cyclePeriod * 8000 ≤ τ) ∧
    (Instr.computationCompletion ∈ s.dueEvents ↔ (∃ k, s.cu.state = .calc k) ∧
      ∃ τ, s.cu.timer = some τ ∧ (2 + s.pt.entries.length) * 8000 ≤ τ) ∧
    (Instr.flowTimeout ∈ s.dueEvents ↔ s.fcu.seenEdge = true ∧
      s.cfg.flowTimeout * 1000000 ≤ (s.fcu.counter - s.fcu.lastCapture.getD 0).toNat) ∧
    (Instr.quietTimeIdle ∈ s.dueEvents ↔ (s.lu.receiver = .discard ∨ ∃ own cs, s.lu.receiver = .collect own cs) ∧
      4167 ≤ s.lu.quiet) ∧
    (Instr.accessGapComplete ∈ s.dueEvents ↔ ∃ slot k gap, s.lu.transmitter = .waiting slot k gap ∧
      (s.lu.slot slot).isSome = true ∧ ((3 + k) * 6250 + 2) / 3 ≤ gap) ∧
    (Instr.pulseEnd ∈ s.dueEvents ↔ ∃ p, s.vd.drive = .pulsing p ∧ p.kind ≠ .seek ∧ p.length * 8000 ≤ p.timer) ∧
    (Instr.seekEnd ∈ s.dueEvents ↔ ∃ p, s.vd.drive = .pulsing p ∧ p.kind = .seek ∧ p.length * 8000 ≤ p.timer) ∧
    (Instr.dwellEnd ∈ s.dueEvents ↔ (∃ w, s.vd.drive = .dwelling w) ∧ s.cfg.dwell * 8000 ≤ s.vd.dwellTimer)

/-- No command stops the part: whatever the command and the state, there is a next state, and the queue of waiting
commands is left as it is. The queue is the model's own, an event whose condition does not hold changes nothing, and a hard
reset keeps the queue (assumption log 1, 7, 23). -/
def Obligations.EveryCommandAnswersNext : Prop :=
  ∀ (c : Instr) (s : State), ∃ t, exec c s = .next t ∧ t.pending = s.pending

/-- HARD_RESET puts every block at its hard reset values from any state, every parameter at its default of Table 1.1, and
every output is released (R3, R5, R7, R25, R38, R40, R54, R84, R87, R117, R119, R138, R151, R175, R178). The queue is the
model's own and stands (log 23). -/
def Obligations.HardResetValues : Prop :=
  ∀ s : State, ∃ t, exec .hardReset s = .next t ∧ t.atHardReset ∧ t.released ∧ t.pending = s.pending ∧
    ∀ id p lo hi d, (id, p, lo, hi, d) ∈ parameterTable → t.cfg.value p = d

/-- The state after reset has the hard reset values and satisfies every law of Sys2Proof/Safety.lean. -/
def Obligations.ResetIsLawful : Prop :=
  State.reset.atHardReset ∧ State.reset.pending = [] ∧ State.reset.tableLaw ∧ State.reset.entryLaw ∧
    State.reset.configLaw ∧ State.reset.speedLaw ∧ State.reset.yieldLaw ∧ State.reset.valveLaw ∧ State.reset.counterLaw ∧
    State.reset.stationLaw ∧ State.reset.channelLaw

/-- The end of a hard reset samples the straps, sets both FLOWIN levels from the first sample, and leaves the port
deselected at the level SSN has (R1, R33, R178); every other field stands. While the part is in hard reset, nothing but
that end and a hard reset acts (R7; assumption log 8), and there is no end of hard reset outside one. -/
def Obligations.EndOfHardReset : Prop :=
  (∀ (code : BitVec 5) (role flowin ssn : Bool) (s : State), s.inReset = true →
    exec (.endOfHardReset code role flowin ssn) s = .next
      { s with
        inReset := false
        sc.address := code.toNat + 1
        sc.role := if role then .plant else .customer
        fcu.accepted := flowin
        fcu.previous := flowin
        sp.ssnHigh := ssn }) ∧
  (∀ (code : BitVec 5) (role flowin ssn : Bool) (s : State), s.inReset = false →
    exec (.endOfHardReset code role flowin ssn) s = .next s) ∧
  (∀ (c : Instr) (s : State), s.inReset = true → c ≠ .hardReset →
    (∀ code role flowin ssn, c ≠ .endOfHardReset code role flowin ssn) → exec c s = .next s)

/-- Time moves timers and nothing else, and passes additively: a clock periods and then b more are a + b (R21, R32, R40,
R56, R57, R85, R136, R151, R154). The capture counter counts whole microseconds modulo 2^32; the gap of a waiting frame and
the time of a frame in flight run on; the PWM of a plant takes a new command at the start of its next period of 800; the
dwell timer and the pulse timer of a customer run on (R2, assumption log 19). Once the line has been idle for 2 C with
nothing being sent, no character of the station's own is on it (assumption log 14, 20). -/
def Obligations.TimePassesAdditively : Prop :=
  ∀ (s : State) (a b : Nat),
    (s.pass a).pass b = s.pass (a + b) ∧
    s.pass a =
      { s with
        mu.timer := s.mu.timer + a
        fcu.counter := s.fcu.counter + BitVec.ofNat 32 ((s.fcu.fraction + a) / 8)
        fcu.fraction := (s.fcu.fraction + a) % 8
        lu.quiet := s.lu.quiet + a
        lu.transmitter := match s.lu.transmitter with
          | .idle => .idle
          | .waiting slot k gap => .waiting slot k (gap + a)
          | .sending o t => .sending o (t + a)
        lu.beganSending := s.lu.beganSending && (s.lu.transmitter.isSending || decide (s.lu.quiet + a < 4167))
        cu.timer := s.cu.timer.map (· + a)
        pd := if s.sc.role = .customer then s.pd
          else if s.pd.phase + a < 800 then { s.pd with phase := s.pd.phase + a }
          else { s.pd with phase := (s.pd.phase + a) % 800, high := (2 * s.pd.command * 800 + 10000) / 20000 }
        vd := if s.sc.role = .plant then s.vd
          else { s.vd with
            dwellTimer := s.vd.dwellTimer + a
            drive := match s.vd.drive with
              | .pulsing p => .pulsing { p with timer := p.timer + a }
              | other => other } }

/-! ### Rules of the whole machine -/

/-- The straps are read at the end of a hard reset only (R1), and from START on the configuration set is fixed until the
next hard reset, but for m_target, which SET_TARGET may change (R3, R5). -/
def Obligations.StrapsAndConfigurationFixed : Prop :=
  ∀ (c : Instr) (s t : State), exec c s = .next t → c ≠ .hardReset →
    ((∀ code role flowin ssn, c ≠ .endOfHardReset code role flowin ssn) →
      t.sc.address = s.sc.address ∧ t.sc.role = s.sc.role) ∧
    (s.sc.state.runs → t.cfg = { s.cfg with mTarget := t.cfg.mTarget }) ∧
    (s.sc.state.runs → (∀ v, c ≠ .setTarget v) → (∀ bits, c ≠ .unknownCommand bits) → t.cfg = s.cfg)

/-- The station state moves only along Table 1.3, and no way but a hard reset leads back to CONFIG (R7). The cycle unit state
moves only along R87: at a boundary, a completion, HOLD, RELEASE and RESTART; no other command moves it, not LEAVE, REJOIN or
a conflict (R99). Bits of UNKNOWN_COMMAND may spell a command, and rows that name an outcome are its event (assumption log
6, 9). -/
def Obligations.StationStateMoves : Prop :=
  ∀ (c : Instr) (s t : State), exec c s = .next t → c ≠ .hardReset →
    ((∀ bits, c ≠ .unknownCommand bits) →
      t.cu.state = s.cu.state ∨
      (s.cu.state = .opened ∧ (∃ k, t.cu.state = .calc k) ∧ boundaryRow c) ∨
      (s.cu.state = .held ∧ t.cu.state = .heldPending ∧ c = .boundary) ∨
      (s.cu.state = .heldPending ∧ (∃ k, t.cu.state = .calc k) ∧ (boundaryRow c ∨ c = .release)) ∨
      ((∃ k, s.cu.state = .calc k) ∧ t.cu.state = .opened ∧ (completionRow c ∨ c = .restart)) ∨
      (s.cu.state = .opened ∧ t.cu.state = .held ∧ c = .hold) ∨
      (s.cu.state = .held ∧ t.cu.state = .opened ∧ (c = .release ∨ c = .restart)) ∨
      (s.cu.state = .heldPending ∧ t.cu.state = .opened ∧ c = .restart)) ∧
    (t.sc.state = s.sc.state ∨
    (s.sc.state, t.sc.state) ∈ [(StationState.config, StationState.listen), (.listen, .active), (.active, .muted),
      (.muted, .active), (.listen, .quiet), (.active, .quiet), (.muted, .quiet), (.quiet, .listen), (.active, .listen),
      (.muted, .listen)])

/-- A set latch stays set through every command but ACK_LATCHES and a hard reset (R173). Counters saturate at 65535, and no
command but READ_COUNTERS and a hard reset lowers one (R176). UNKNOWN_COMMAND is left out: bits that spell one of those
commands are that command (assumption log 9). -/
def Obligations.LatchesAndCountersStand : Prop :=
  ∀ (c : Instr) (s t : State), exec c s = .next t → c ≠ .hardReset → (∀ bits, c ≠ .unknownCommand bits) →
    ((∀ m, c ≠ .ackLatches m) → ∀ l, s.latched l = true → t.latched l = true) ∧
    (s.counterLaw → t.counterLaw ∧ ((∀ o, c ≠ .readCounters o) → ∀ k, s.count k ≤ t.count k))

/-! ### Laws that every step keeps -/

/-- Every step keeps the law of the Peer Table and the Inbound Queue (R64, R71, R79). -/
def Obligations.StepKeepsTableLaw : Prop :=
  ∀ s t : State, s.tableLaw → step s = .next t → t.tableLaw

/-- Every step keeps entries and waiting frames within their ranges and fitting their role (R51, R65). -/
def Obligations.StepKeepsEntryLaw : Prop :=
  ∀ s t : State, s.entryLaw → step s = .next t → t.entryLaw

/-- Every step keeps the configuration set in range, and in its START relations while the station runs (R4, R6). -/
def Obligations.StepKeepsConfigLaw : Prop :=
  ∀ s t : State, s.configLaw → step s = .next t → t.configLaw

/-- Every step keeps the plant's speed command at 0 or within its limits, and its integral within 0..10000 (R128, R131). -/
def Obligations.StepKeepsSpeedLaw : Prop :=
  ∀ s t : State, s.speedLaw → step s = .next t → t.speedLaw

/-- Between any two successive speed commands that no hard reset separates the change is at most ramp, but for a step
between 0 and speed_min (R131). -/
def Obligations.SpeedMovesByAtMostRamp : Prop :=
  ∀ (c : Instr) (s t : State), s.speedLaw → c ≠ .hardReset → exec c s = .next t →
    (t.fe.speed ≤ s.fe.speed + s.cfg.ramp ∧ s.fe.speed ≤ t.fe.speed + s.cfg.ramp) ∨
    (s.fe.speed = 0 ∧ t.fe.speed = s.cfg.speedMin) ∨ (s.fe.speed = s.cfg.speedMin ∧ t.fe.speed = 0)

/-- Every step keeps the yield cap in [cap_floor, 10000] and the stored request in 0..10000 (R138, R139, R144). -/
def Obligations.StepKeepsYieldLaw : Prop :=
  ∀ s t : State, (s.configLaw ∧ s.yieldLaw) → step s = .next t → t.yieldLaw

/-- Every step keeps the law of the station counts and of the outgoing frames: the listen count and the mute count in their
ranges, a report in its slot or in flight only in ACTIVE, a notice only in QUIET, and a transmitter that serves what the
slots hold (R7, R11, R13, R14, R54, R63). -/
def Obligations.StepKeepsStationLaw : Prop :=
  ∀ s t : State, s.stationLaw → step s = .next t → t.stationLaw

/-- Every step keeps every channel record in its law: a filtered value in VALID and FAULT_HOLD alone and in the signed 16-bit
range, the fault-hold count below 300 and the recovery count below 10 (section 2.1, R24 to R29). -/
def Obligations.StepKeepsChannelLaw : Prop :=
  ∀ s t : State, s.channelLaw → step s = .next t → t.channelLaw

/-- Every step keeps a known valve estimate in 0..10000 (R153). -/
def Obligations.StepKeepsValveLaw : Prop :=
  ∀ s t : State, s.valveLaw → step s = .next t → t.valveLaw

/-- The open and close outputs are never both driven; a pulse starts only in the direction of the last end or with the
dwell timer at dwell; and a pulse that ends leaves its own direction as the last end and the dwell timer at 0 (R152,
R154). -/
def Obligations.PulsesKeepTheDwell : Prop :=
  ∀ (c : Instr) (s t : State), s.sc.role = .customer → c ≠ .hardReset → exec c s = .next t →
    ¬(t.vd.drives .opening = true ∧ t.vd.drives .closing = true) ∧
    (∀ (v : ValveDrive) (d : Direction), v.drives d = true ↔ ∃ p, v.drive = .pulsing p ∧ p.direction = d) ∧
    ∀ d : Direction,
      (s.vd.drives d = false → t.vd.drives d = true →
        t.vd.lastEnd = d.asEnd ∨ s.cfg.dwell * 8000 ≤ t.vd.dwellTimer) ∧
      (s.vd.drives d = true → t.vd.drives d = false → t.vd.lastEnd = d.asEnd ∧ t.vd.dwellTimer = 0)

/-! ### Encodings -/

/-- The message of every host command reads back as that command, whatever filler follows it, and sums to 0 modulo 256
(R168, R180). It is the code of Table 11.6, the number of parameter bytes, these, most significant first, and a check byte. -/
def Obligations.PortMessagesRoundTrip : Prop :=
  (∀ (id a o m x : Byte) (v : Word16) (hi lo : Byte), hi = v.extractLsb' 8 8 → lo = v.extractLsb' 0 8 →
    ∀ q ∈ [(Instr.configure id v, (0x10 : Byte), [id, hi, lo]), (.start, 0x11, []), (.setRequest v, 0x20, [hi, lo]),
      (.setAvailable x, 0x21, [x]), (.setTarget v, 0x22, [hi, lo]), (.readStation, 0x30, []), (.readFigures, 0x31, []),
      (.listPeers, 0x32, []), (.readPeer a, 0x33, [a]), (.readCounters o, 0x34, [o]), (.ackLatches m, 0x35, [m]),
      (.hold, 0x40, []), (.release, 0x41, []), (.reseek, 0x42, []), (.leave, 0x50, []), (.rejoin, 0x51, []),
      (.restart, 0x52, [])],
    ∃ check, encodeCommand q.1 = some (q.2.1 :: BitVec.ofNat 8 q.2.2.length :: q.2.2 ++ [check])) ∧
  (∀ bs : List Byte, (byteSum bs).toNat = (bs.map BitVec.toNat).sum % 256) ∧
  (∀ c : Instr, (takenRoleStates c).isSome = true → (encodeCommand c).isSome = true) ∧
  ∀ (c : Instr) (m filler : List Byte), encodeCommand c = some m →
    portEvent (m ++ filler) = .command c ∧ byteSum m = 0

/-- A select period whose clocks shift in a command's message, then filler, then fewer than eight bits, is that command:
eight clocks make a byte, most significant bit first, and fewer at the end are discarded (R167, R168; the SDI levels are
the operand of UNKNOWN_COMMAND, assumption log 9). -/
def Obligations.ShiftedBitsAreTheCommand : Prop :=
  (∀ bs : List Byte, bitsOf bs = bs.flatMap fun b => [b.getLsbD 7, b.getLsbD 6, b.getLsbD 5, b.getLsbD 4, b.getLsbD 3,
    b.getLsbD 2, b.getLsbD 1, b.getLsbD 0]) ∧
  (∀ (bs : List Byte) (tail : List Bool), tail.length < 8 → assembleBytes (bitsOf bs ++ tail) = bs) ∧
  ∀ (c : Instr) (m filler : List Byte) (tail : List Bool) (s : State), encodeCommand c = some m → tail.length < 8 →
    s.sp.select = some [] → exec (.unknownCommand (bitsOf (m ++ filler) ++ tail)) s = exec c s

/-- Every frame the manual allows reads back from its characters as itself, and every frame that passes both checks is one
the manual allows (R42, R43, R44, R47, R51, R52, R179). The characters are the length, the body of Table 11.2 with the
flags of Table 11.3 and the present fields of Table 11.4, and the CRC of R43 over both, high byte first. The ten levels of
a character read back as its value; with a dominant stop bit they are a framing fault, and with a recessive start bit no
character (R41). -/
def Obligations.FramesRoundTrip : Prop :=
  (∀ f : Frame, f.lawful → checkFrame f.characters = .good f ∧ 3 ≤ f.body.length ∧ f.body.length ≤ 15 ∧
    f.characters.length = f.body.length + 3 ∧ f.levels.length = 10 * (f.body.length + 4)) ∧
  (∀ (cs : List Byte) (f : Frame), checkFrame cs = .good f → f.lawful) ∧
  (∀ (f : Frame) (covered : List Byte) (crc : Word16), covered = BitVec.ofNat 8 f.body.length :: f.body →
    crc = (bitsOf covered).foldl (fun (r : Word16) bit => if r.msb = bit then r <<< 1 else (r <<< 1) ^^^ 0x1021)
      0xFFFF →
    f.characters = covered ++ [crc.extractLsb' 8 8, crc.extractLsb' 0 8]) ∧
  (∀ n : Notice, n.body = [BitVec.ofNat 8 n.source, 0x20 + n.role.code, n.sequence] ∧ (Frame.notice n).body = n.body) ∧
  (∀ (r : Report) (word : Int → List Byte),
    (∀ x, word x = [(BitVec.ofInt 16 x).extractLsb' 8 8, (BitVec.ofInt 16 x).extractLsb' 0 8]) →
    (Frame.report r).body = r.body ∧
    r.body.take 3 = [BitVec.ofNat 8 r.source, 0x10 + r.role.code, r.sequence] ∧
    flagsAt r.body 3 [r.flags.restarted, r.flags.available, r.flags.atLimit, r.flags.starved, r.flags.yielding,
      r.flags.sensorFault, r.flags.indexNone] ∧
    flagsAt r.body 4 [r.margin.isSome, r.flow.isSome, r.deltaT.isSome, r.cap.isSome, r.weight.isSome] ∧
    r.body.drop 5 = word r.output ++ (r.margin.map word).getD [] ++ (r.flow.map fun x => word x).getD [] ++
      (r.deltaT.map word).getD [] ++ (r.cap.map fun x => word x).getD [] ++
      (r.weight.map fun x => [BitVec.ofNat 8 x]).getD []) ∧
  (∀ c : Byte, sampleCharacter (characterLevels c) = .good c ∧
    sampleCharacter ((characterLevels c).take 9 ++ [false]) = .framingFault ∧
    sampleCharacter (true :: (characterLevels c).drop 1) = .dropped)

/-- Every response is its status, the length of its data, the data and a check byte, and sums to 0 modulo 256 (R169); the
records have the lengths of R181, and their bytes at the offsets of Tables 11.8, 11.9 and 11.11 are the fields named there, an
absent field as zeros, a signed one in two's complement, with the codes of R181. A field is sent modulo its width, which a
pulse timer and length alone can exceed (assumption log 29); the pulse timer is the whole ms that have passed (assumption log
13). The bits of a record byte that the tables give no field are clear (assumption log 28). -/
def Obligations.ResponsesAndRecords : Prop :=
  (∀ r : Response, byteSum r.bytes = 0 ∧ r.bytes.length = r.data.length + 3 ∧
    r.bytes.take (r.data.length + 2) = r.status.code :: BitVec.ofNat 8 r.data.length :: r.data) ∧
  ([Status.done, .retry, .format, .unknown, .role, .state, .range].map Status.code =
      [0x00, 0x01, 0x81, 0x82, 0x83, 0x84, 0x85] ∧
    [Role.plant, .customer].map Role.code = [1, 2] ∧
    [StationState.config, .listen, .active, .muted, .quiet].map StationState.code = [0, 1, 2, 3, 4] ∧
    [ChannelState.unseeded, .valid, .faultHold, .absent].map ChannelState.code = [0, 1, 2, 3] ∧
    [PumpMode.stopped, .run, .holding, .fallback, .stopping, .frozen].map PumpMode.code = [0, 1, 2, 3, 4, 5] ∧
    [PeerState.fresh, .stale].map PeerState.code = [0, 1] ∧ [Direction.opening, .closing].map Direction.code = [1, 2] ∧
    [PulseKind.trim, .toEnd, .seek].map PulseKind.code = [1, 2, 3] ∧
    [LastEnd.opening, .closing, .both].map LastEnd.code = [1, 2, 3] ∧
    [Latch.addressConflict, .txAbandoned, .rxOverrun, .sensorAbsent, .starvedEntered, .indexLost, .holdOverrun,
      .tableChanged].map Latch.bit = [0, 1, 2, 3, 4, 5, 6, 7]) ∧
  (∀ (s : State) (b : List Byte), b = s.stationRecord →
    b.length = 87 ∧
    b.take 5 = [BitVec.ofNat 8 s.sc.address, s.sc.role.code, BitVec.ofNat 8 s.sc.state.code,
      BitVec.ofNat 8 s.sc.listenCount, BitVec.ofNat 8 s.sc.muteCount] ∧
    flagsAt b 5 [s.sc.firstReport, s.sc.available, s.fe.record.isSome, s.tableOpen] ∧
    valueAt b 6 2 = s.cfg.mTarget % 65536 ∧ valueAt b 8 2 = s.fe.request % 65536 ∧
    valueAt b 10 1 = (match s.cu.state with | .opened => 0 | .calc _ => 1 | .held => 2 | .heldPending => 3) ∧
    (∀ (n : Fin 4) (c : Channel), c = s.mu.channels.get n →
      valueAt b (11 + 9 * n) 1 = c.state.code ∧ flagsAt b (12 + 9 * n) [c.raw.isSome, c.filtered.isSome] ∧
      valueAt b (13 + 9 * n) 2 = (c.raw.getD 0).toNat ∧ (valueAt b (15 + 9 * n) 2 : Int) = c.filtered.getD 0 % 65536 ∧
      valueAt b (17 + 9 * n) 2 = c.faultHold % 65536 ∧ valueAt b (19 + 9 * n) 1 = c.recovery % 256) ∧
    flagsAt b 47 [s.fcu.seenEdge, s.fcu.lastPeriod.isSome] ∧
    valueAt b 48 4 = s.fcu.lastPeriod.getD 0 % 4294967296 ∧ valueAt b 52 2 = s.fcu.lastFlow % 65536 ∧
    valueAt b 54 1 = (match s.lu.receiver with | .off => 0 | .hunt => 1 | .collect _ _ => 2 | .discard => 3) ∧
    valueAt b 55 1 = (match s.lu.transmitter with | .idle => 0 | .waiting _ _ _ => 1 | .sending _ _ => 2) ∧
    flagsAt b 56 [s.lu.reportSlot.isSome, s.lu.noticeSlot.isSome] ∧ valueAt b 57 1 = s.lu.sequence.toNat ∧
    valueAt b 58 1 = s.pt.entries.length % 256 ∧ valueAt b 59 1 = s.pt.queue.length % 256 ∧
    valueAt b 60 1 = s.fe.mode.code ∧ valueAt b 61 2 = s.fe.speed % 65536 ∧ valueAt b 63 2 = s.fe.cap % 65536 ∧
    flagsAt b 65 [s.vd.estimate.isSome, s.vd.pulse.isSome, s.vd.waitingPulse.isSome,
      s.vd.pending.isSome, decide (s.cfg.dwell * 8000 ≤ s.vd.dwellTimer)] ∧
    valueAt b 66 2 = s.vd.estimate.getD 0 % 65536 ∧
    (s.vd.drive = .idle → valueAt b 68 1 = 0 ∧ s.vd.pulse = none ∧ s.vd.waitingPulse = none) ∧
    (∀ w, s.vd.drive = .dwelling w → valueAt b 68 1 = 3 ∧ s.vd.pulse = none ∧ s.vd.waitingPulse = w) ∧
    (∀ p, s.vd.drive = .pulsing p → s.vd.pulse = some p ∧ s.vd.waitingPulse = none ∧
      valueAt b 68 1 = match p.kind, p.direction with
        | .seek, .opening => 4 | .seek, .closing => 5 | _, .opening => 1 | _, .closing => 2) ∧
    (s.vd.pulse = none → valueAt b 69 1 = 0 ∧ valueAt b 70 4 = 0 ∧ valueAt b 74 4 = 0) ∧
    (∀ p, s.vd.pulse = some p → valueAt b 69 1 = p.direction.code + 4 * p.kind.code ∧
      valueAt b 70 4 = p.timer / 8000 % 4294967296 ∧ valueAt b 74 4 = p.length % 4294967296) ∧
    (s.vd.waitingPulse = none → valueAt b 78 1 = 0 ∧ valueAt b 79 4 = 0) ∧
    (∀ w, s.vd.waitingPulse = some w → valueAt b 78 1 = w.direction.code + 4 * w.kind.code ∧
      valueAt b 79 4 = w.length % 4294967296) ∧
    valueAt b 83 2 = s.vd.pending.getD 0 % 65536 ∧ valueAt b 85 1 = s.vd.lastEnd.code ∧
    b.drop 86 = [s.sp.latches]) ∧
  (∀ (r : FiguresRecord) (b : List Byte), b = r.bytes →
    b.getD 0 0 = 1 ∧ valueAt b 1 1 = r.stationState.code ∧ b.getD 2 0 = r.role.code ∧
    flagsAt b 3 (r.channels.toList.map (·.isSome)) ∧
    (∀ n : Fin 4, valueAt b 4 1 / 4 ^ (n : Nat) % 4 = (r.channelStates.get n).code ∧
      (valueAt b (5 + 2 * n) 2 : Int) = (r.channels.get n).getD 0 % 65536) ∧
    flagsAt b 13 [r.flow.isSome, r.dp.isSome, r.margin.isSome, r.deltaT.isSome] ∧
    flagsAt b 14 [r.ownIndex, r.selfAvailable, r.allAtLimit, r.starved, r.sensorFault, r.index.isNone] ∧
    valueAt b 15 2 = r.flow.getD 0 % 65536 ∧ (valueAt b 17 2 : Int) = r.dp.getD 0 % 65536 ∧
    (valueAt b 19 2 : Int) = r.margin.getD 0 % 65536 ∧ (valueAt b 21 2 : Int) = r.deltaT.getD 0 % 65536 ∧
    valueAt b 23 2 = r.deficit % 65536 ∧ valueAt b 25 1 = r.candidateCount % 256 ∧
    (r.index = none → valueAt b 26 2 = 0 ∧ valueAt b 28 1 = 0) ∧
    (∀ m a, r.index = some (m, a) → (valueAt b 26 2 : Int) = m % 65536 ∧ valueAt b 28 1 = a % 256) ∧
    valueAt b 29 1 = r.availableCount % 256 ∧ valueAt b 30 4 = r.totalFlow % 4294967296 ∧
    valueAt b 34 2 = r.weightSum % 65536 ∧
    (∀ mode v i atLimit, r.results = .plant mode v i atLimit → b.length = 42 ∧
      flagsAt b 36 [true, false, false, atLimit] ∧ valueAt b 37 1 = mode.code ∧ valueAt b 38 2 = v % 65536 ∧
      valueAt b 40 2 = i % 65536) ∧
    (∀ request cap target, r.results = .customer request cap target → b.length = 43 ∧
      flagsAt b 36 [false, true, target.isSome, false] ∧ valueAt b 37 2 = request % 65536 ∧
      valueAt b 39 2 = cap % 65536 ∧ valueAt b 41 2 = target.getD 0 % 65536)) ∧
  (∀ (e : Entry) (b : List Byte), b = e.bytes →
    b.length = 22 ∧ b.take 6 = [1, BitVec.ofNat 8 e.address, e.role.code, BitVec.ofNat 8 e.state.code,
      BitVec.ofNat 8 e.age, e.lastSequence] ∧
    flagsAt b 6 [e.flags.restarted, e.flags.available, e.flags.atLimit, e.flags.starved, e.flags.yielding,
      e.flags.sensorFault, e.flags.indexNone] ∧
    flagsAt b 7 [e.margin.isSome, e.flow.isSome, e.deltaT.isSome, e.cap.isSome, e.weight.isSome] ∧
    valueAt b 8 2 = e.output % 65536 ∧ (valueAt b 10 2 : Int) = e.margin.getD 0 % 65536 ∧
    valueAt b 12 2 = e.flow.getD 0 % 65536 ∧ (valueAt b 14 2 : Int) = e.deltaT.getD 0 % 65536 ∧
    valueAt b 16 2 = e.cap.getD 0 % 65536 ∧ valueAt b 18 1 = e.weight.getD 0 % 256 ∧
    valueAt b 19 1 = e.gapCount % 256 ∧ valueAt b 20 2 = e.presentFor % 65536) ∧
  (∀ t : PeerTable, t.listBytes.length = 1 + 4 * t.entries.length) ∧
  (∀ k : Counters, k.bytes.length = 26 ∧
    k.toList = [Counter.framesAccepted, .crcErrors, .fragments, .formatErrors, .collisions, .abandoned, .superseded,
      .duplicates, .seqRejects, .overruns, .conflicts, .flowNoise, .starvedCycles].map k.get)

/-! ### The supervisory port -/

/-- A select period begins when SSN falls: nothing is shifted in yet, and SDO shifts out the response buffer, most
significant bit first, then zeros (R167, R169). SSN that is low cannot fall. A port row that comes with no select period
in progress takes nothing: SSN goes high (R178; assumption log 9). -/
def Obligations.SelectPeriods : Prop :=
  (∀ s : State, s.inReset = false → s.sp.ssnHigh = true →
    ∃ t, exec .selectPeriodBegin s = .next t ∧ t = { s with sp.select := some [], sp.ssnHigh := false } ∧
      ∀ n, t.sdo n = some ((bitsOf s.sp.response.bytes ++ List.replicate n false).take n)) ∧
  (∀ s : State, s.sp.ssnHigh = false → exec .selectPeriodBegin s = .next s) ∧
  (∀ (c : Instr) (s : State), (takenRoleStates c).isSome = true → s.inReset = false → s.sp.select = none →
    exec c s = .next { s with sp.ssnHigh := true })

/-- The first three tests of R168, on the complete bytes of a select period: no byte carries no command and keeps the
response buffer; a short command, one that does not sum to 0, and one whose count is not its code's are answered
REFUSED(FORMAT); a code of no command is answered REFUSED(UNKNOWN). None of them has an effect (R167, R168, R170, R180). -/
def Obligations.MalformedCommandsAnswered : Prop :=
  ∀ (bits : List Bool) (s : State), s.selected → s.sp.select = some [] →
    (assembleBytes bits = [] →
      exec (.unknownCommand bits) s = .next { s with sp.select := none, sp.ssnHigh := true }) ∧
    (∀ b, assembleBytes bits = [b] → exec (.unknownCommand bits) s = .next (s.answered .format [])) ∧
    (∀ code n rest, assembleBytes bits = code :: n :: rest →
      (rest.length < n.toNat + 1 → exec (.unknownCommand bits) s = .next (s.answered .format [])) ∧
      (n.toNat + 1 ≤ rest.length → byteSum (code :: n :: rest.take (n.toNat + 1)) ≠ 0 →
        exec (.unknownCommand bits) s = .next (s.answered .format [])) ∧
      (n.toNat + 1 ≤ rest.length → byteSum (code :: n :: rest.take (n.toNat + 1)) = 0 →
        code ∉ commandCodes.map Prod.fst → exec (.unknownCommand bits) s = .next (s.answered .unknown [])) ∧
      (∀ count, n.toNat + 1 ≤ rest.length → byteSum (code :: n :: rest.take (n.toNat + 1)) = 0 →
        (code, count) ∈ commandCodes → n.toNat ≠ count →
        exec (.unknownCommand bits) s = .next (s.answered .format [])))

/-- The role test comes before the state test: a command bound to the other role is answered REFUSED(ROLE) in every
station state, and a command of the right role in a state that does not take it is answered REFUSED(STATE); neither has
an effect (R2, R8, R168, R170, Table 10.1). -/
def Obligations.RoleAndStateTests : Prop :=
  ∀ (c : Instr) (bound : Option Role) (states : List StationState) (s : State),
    takenRoleStates c = some (bound, states) → s.selected →
      (∀ r, bound = some r → s.sc.role ≠ r → exec c s = .next (s.answered .role [])) ∧
      ((∀ r, bound = some r → s.sc.role = r) → s.sc.state ∉ states → exec c s = .next (s.answered .state []))

/-- The identifiers, ranges and value encodings of the parameters are those of Tables 1.1 and 11.7 (R4, R180). CONFIGURE in
CONFIG stores a value in its parameter's range and no other parameter moves; a stored span unseeds its
channel, and a stored flow_timeout already elapsed times the flow capture out at once; a value out of range, and an
identifier of no parameter, are answered REFUSED(RANGE) (R4, R31, R36, R180). -/
def Obligations.ConfigureStores : Prop :=
  (∀ id p, Param.ofId id = some p ↔ ∃ lo hi d, (id, p, lo, hi, d) ∈ parameterTable) ∧
  (∀ id p lo hi d, (id, p, lo, hi, d) ∈ parameterTable → ∀ x : Int,
    p.inRange x = true ↔ lo ≤ x ∧ x ≤ hi ∧ (p = .cyclePeriod → x % 250 = 0)) ∧
  (∀ (p : Param) (v : Word16), ((∃ n, p = .chLo n ∨ p = .chHi n) → p.valueOf v = v.toInt) ∧
    ((∀ n, p ≠ .chLo n ∧ p ≠ .chHi n) → p.valueOf v = v.toNat)) ∧
  ∀ (id : Byte) (v : Word16) (s : State), s.selected → s.sc.state = .config →
    (Param.ofId id = none → exec (.configure id v) s = .next (s.answered .range [])) ∧
    (∀ p, Param.ofId id = some p → p.inRange (p.valueOf v) = false →
      exec (.configure id v) s = .next (s.answered .range [])) ∧
    (∀ p, Param.ofId id = some p → p.inRange (p.valueOf v) = true →
      ∃ t, exec (.configure id v) s = .next t ∧
        t.cfg.value p = p.valueOf v ∧ (∀ q, q ≠ p → t.cfg.value q = s.cfg.value q) ∧
        (∀ n, (p = .chLo n ∨ p = .chHi n) →
          t.mu.channels.get n = ⟨(s.mu.channels.get n).raw, .unseeded, none, 0, 0⟩) ∧
        (∀ n, p ≠ .chLo n → p ≠ .chHi n → t.mu.channels.get n = s.mu.channels.get n) ∧
        (p = .flowTimeout → s.fcu.seenEdge = true →
          v.toNat * 1000000 ≤ (s.fcu.counter - s.fcu.lastCapture.getD 0).toNat →
          t.fcu = { s.fcu with seenEdge := false, lastPeriod := none, lastFlow := 0 }) ∧
        ((p ≠ .flowTimeout ∨ s.fcu.seenEdge = false ∨
          (s.fcu.counter - s.fcu.lastCapture.getD 0).toNat < v.toNat * 1000000) → t.fcu = s.fcu) ∧
        t = { s.answered .done [] with cfg := t.cfg, mu.channels := t.mu.channels, fcu := t.fcu })

/-- START in CONFIG: with the relations of R6 satisfied the station enters LISTEN with the listen count 2, the receiver is
turned on (in HUNT on an idle line, else in DISCARD), the cycle timer starts from zero, a plant's pump becomes FROZEN, and
a customer's Valve Drive begins an end-seek if its estimate is UNKNOWN; otherwise START is answered REFUSED(RANGE)
(R6, R9, R48, R85, R133, R162). The line is idle after 2 C, rounded up to a whole clock period (assumption log 14). -/
def Obligations.StartEntersListen : Prop :=
  ∀ s : State, s.selected → s.sc.state = .config →
    (¬((∀ n, (s.cfg.span.get n).lo < (s.cfg.span.get n).hi) ∧ s.cfg.speedMin ≤ s.cfg.speedMax ∧
        s.cfg.speedMin ≤ s.cfg.fallbackSpeed ∧ s.cfg.fallbackSpeed ≤ s.cfg.speedMax) →
      exec .start s = .next (s.answered .range [])) ∧
    ((∀ n, (s.cfg.span.get n).lo < (s.cfg.span.get n).hi) → s.cfg.speedMin ≤ s.cfg.speedMax →
      s.cfg.speedMin ≤ s.cfg.fallbackSpeed → s.cfg.fallbackSpeed ≤ s.cfg.speedMax →
      exec .start s = .next
        { s.answered .done [] with
          sc.state := .listen
          sc.listenCount := 2
          lu.receiver := if 4167 ≤ s.lu.quiet then .hunt else .discard
          cu.timer := some 0
          fe.mode := if s.sc.role = .plant then .frozen else s.fe.mode
          fe.holdingCount := if s.sc.role = .plant then 0 else s.fe.holdingCount
          vd := if s.sc.role = .customer ∧ s.vd.estimate = none then s.vd.beginSeek s.cfg else s.vd })

/-- The runtime settings are stored in every station state: the request limited to 10000, the availability from 0 or 1
(any other value is refused with RANGE), and m_target clamped to 0..5000, a negative value storing 0 (R5, R139, R170,
R180). -/
def Obligations.RuntimeSettingsStored : Prop :=
  (∀ (v : Word16) (s : State), s.selected → s.sc.role = .customer →
    exec (.setRequest v) s = .next { s.answered .done [] with fe.request := if 10000 < v.toNat then 10000 else v.toNat }) ∧
  (∀ (v : Byte) (s : State), s.selected → s.sc.role = .plant →
    exec (.setAvailable v) s = .next
      (if v = 0 then { s.answered .done [] with sc.available := false }
       else if v = 1 then { s.answered .done [] with sc.available := true }
       else s.answered .range [])) ∧
  (∀ (v : Word16) (s : State), s.selected → s.sc.role = .plant →
    exec (.setTarget v) s = .next
      { s.answered .done [] with
        cfg.mTarget := if v.toInt < 0 then 0 else if 5000 < v.toInt then 5000 else v.toInt.toNat })

/-- The reads change nothing but the response buffer, in every station and cycle unit state: READ_STATION answers the
station record, READ_FIGURES the published record or the absent marker, LIST_PEERS the list, READ_PEER the entry, the
absent marker, or RANGE outside 1..32 (R83, R118, R171, R172, R181). -/
def Obligations.ReadsAnswerRecords : Prop :=
  ∀ s : State, s.selected →
    exec .readStation s = .next (s.answered .done s.stationRecord) ∧
    exec .readFigures s = .next (s.answered .done (match s.fe.record with
      | none => [0]
      | some r => r.bytes)) ∧
    exec .listPeers s = .next (s.answered .done
      (BitVec.ofNat 8 s.pt.entries.length :: s.pt.entries.flatMap fun e =>
        [BitVec.ofNat 8 e.address, e.role.code, BitVec.ofNat 8 e.state.code, BitVec.ofNat 8 e.age])) ∧
    ∀ a : Byte,
      (a.toNat < 1 ∨ 32 < a.toNat → exec (.readPeer a) s = .next (s.answered .range [])) ∧
      (1 ≤ a.toNat → a.toNat ≤ 32 → (∀ e ∈ s.pt.entries, e.address ≠ a.toNat) →
        exec (.readPeer a) s = .next (s.answered .done [0])) ∧
      (∀ e, 1 ≤ a.toNat → a.toNat ≤ 32 → s.pt.entries.find? (fun x => x.address == a.toNat) = some e →
        exec (.readPeer a) s = .next (s.answered .done e.bytes))

/-- READ_COUNTERS answers the thirteen counters in the order of Table 10.3 as they stood, and option 1 then clears them
all; any option but 0 and 1 is refused with RANGE (R177). ACK_LATCHES clears the latches its mask names, keeps the others,
and answers the latch set that is left (R174). -/
def Obligations.CountersReadAndLatchesAcknowledged : Prop :=
  (∀ (o : Byte) (s : State), s.selected →
    (o = 0 → exec (.readCounters o) s = .next (s.answered .done (s.sp.counters.toList.flatMap fun (n : Nat) => be16 n))) ∧
    (o = 1 → exec (.readCounters o) s = .next
      { s.answered .done (s.sp.counters.toList.flatMap fun (n : Nat) => be16 n) with
        sp.counters := ⟨0, 0, 0, 0, 0, 0, 0, 0, 0, 0, 0, 0, 0⟩ }) ∧
    (o ≠ 0 → o ≠ 1 → exec (.readCounters o) s = .next (s.answered .range []))) ∧
  (∀ (m : Byte) (s : State), s.selected →
    ∃ t, exec (.ackLatches m) s = .next t ∧
      (∀ l : Latch, t.latched l = (s.latched l && !m.getLsbD l.bit)) ∧
      t.attn = decide (∃ l : Latch, l ∈ [Latch.addressConflict, .txAbandoned, .rxOverrun, .sensorAbsent,
        .starvedEntered, .indexLost, .holdOverrun, .tableChanged] ∧ t.latched l = true) ∧
      t = { s.answered .done [t.sp.latches] with sp.latches := t.sp.latches })

/-- HOLD by station state and cycle unit state (R95): refused with STATE in CONFIG; in OPEN the CU enters HELD and the table
closes; in CALC it is answered RETRY; in HELD and HELD_PENDING it is answered DONE and extends nothing: cycle timer and
cycle unit state stand. -/
def Obligations.HoldTaken : Prop :=
  ∀ s : State, s.selected →
    (s.sc.state = .config → exec .hold s = .next (s.answered .state [])) ∧
    (s.sc.state ≠ .config → s.cu.state = .opened →
      ∃ t, exec .hold s = .next t ∧ t = { s.answered .done [] with cu.state := .held } ∧ t.tableOpen = false) ∧
    (s.sc.state ≠ .config → ∀ k, s.cu.state = .calc k → exec .hold s = .next (s.answered .retry [])) ∧
    (s.sc.state ≠ .config → (s.cu.state = .held ∨ s.cu.state = .heldPending) →
      exec .hold s = .next (s.answered .done []))

/-- RELEASE by cycle unit state (R96): from HELD the CU enters OPEN, the queue drains record by record, oldest first, no
pass is made and the timer keeps its count; from HELD_PENDING one aging pass is made, a computation starts and the timer
restarts, the table staying closed and the queue as it is; in OPEN, in CALC and in CONFIG it is refused with STATE. -/
def Obligations.ReleaseTaken : Prop :=
  ∀ s : State, s.selected →
    (s.sc.state = .config → exec .release s = .next (s.answered .state [])) ∧
    (s.sc.state ≠ .config → s.cu.state = .opened → exec .release s = .next (s.answered .state [])) ∧
    (s.sc.state ≠ .config → ∀ k, s.cu.state = .calc k → exec .release s = .next (s.answered .state [])) ∧
    (s.sc.state ≠ .config → s.cu.state = .held →
      ∃ t, exec .release s = .next t ∧ t.tableOpen = true ∧
        t.pt.entries = (s.pt.queue.foldl State.applyFrame s).pt.entries ∧ t.pt.queue = [] ∧
        t.cu = ⟨s.cu.timer, .opened⟩ ∧
        t.sp.latches = (s.pt.queue.foldl State.applyFrame s).sp.latches ∧
        t.sp.counters = (s.pt.queue.foldl State.applyFrame s).sp.counters ∧
        t = { s.answered .done [] with
              pt := t.pt, cu := t.cu, sp.latches := t.sp.latches, sp.counters := t.sp.counters }) ∧
    (s.sc.state ≠ .config → s.cu.state = .heldPending →
      ∃ t k, exec .release s = .next t ∧ t.tableOpen = false ∧
        t.pt = ⟨passOver s.cfg.staleLimit s.pt.entries, s.pt.queue⟩ ∧ t.cu = ⟨some 0, .calc k⟩ ∧
        k = s.takeIn s.flowGiven ∧
        (∀ l : Latch, t.latched l = (s.latched l ||
          (l == Latch.tableChanged && passRemoves s.cfg.staleLimit s.pt.entries (fun _ => true)) ||
          (l == Latch.indexLost && passRemoves s.cfg.staleLimit s.pt.entries (fun a => s.fe.indexAddress == some a)))) ∧
        t = { s.answered .done [] with
              pt := t.pt, cu := t.cu, fcu := t.fcu, sp.latches := t.sp.latches } ∧
        (s.flowLate = false → t.fcu = s.fcu) ∧
        (s.flowLate = true → t.fcu = { s.fcu with seenEdge := false, lastPeriod := none, lastFlow := 0 }))

/-- An end-seek begun by the Valve Drive (R162): the estimate is first reckoned for a pulse in flight, by its whole ms
(assumption log 13); the seek goes toward open from an estimate of 5000 or more and toward closed from a lower or UNKNOWN
one, for travel_time × 1250 ms; a pulse in flight ends with its end recorded; nothing stays pending; the seek starts if
permitted and else waits. RESEEK begins one, unless the VD is seeking, which answers RETRY (R164). -/
def Obligations.ReseekBeginsSeek : Prop :=
  (∀ s : State, s.selected → s.sc.role = .customer → s.sc.state ≠ .config →
    (s.vd.seeking = true → exec .reseek s = .next (s.answered .retry [])) ∧
    (s.vd.seeking = false → exec .reseek s = .next { s.answered .done [] with vd := s.vd.beginSeek s.cfg })) ∧
  (∀ (cfg : ConfigSet) (v : ValveDrive),
    (∀ p, v.drive = .pulsing p →
      (∀ e, p.start = some e → (v.beginSeek cfg).estimate = some (match p.direction with
        | .opening => min 10000 (e + p.timer / 8000 * 10 / cfg.travelTime)
        | .closing => e - p.timer / 8000 * 10 / cfg.travelTime)) ∧
      (p.start = none → (v.beginSeek cfg).estimate = none) ∧
      (v.beginSeek cfg).lastEnd = p.direction.asEnd ∧ (v.beginSeek cfg).dwellTimer = 0) ∧
    ((∀ p, v.drive ≠ .pulsing p) → (v.beginSeek cfg).estimate = v.estimate ∧
      (v.beginSeek cfg).lastEnd = v.lastEnd ∧ (v.beginSeek cfg).dwellTimer = v.dwellTimer) ∧
    (v.beginSeek cfg).pending = none ∧
    ∀ d, d = (match (v.beginSeek cfg).estimate with
        | none => Direction.closing
        | some e => if e < 5000 then .closing else .opening) →
      (v.beginSeek cfg).drive =
        if (v.beginSeek cfg).lastEnd = d.asEnd ∨ cfg.dwell * 8000 ≤ (v.beginSeek cfg).dwellTimer then
          .pulsing ⟨d, .seek, (v.beginSeek cfg).estimate, 0, cfg.travelTime * 1250⟩
        else .dwelling (some ⟨d, .seek, cfg.travelTime * 1250⟩))

/-- LEAVE in LISTEN, ACTIVE and MUTED (R14, R15, R16, R165): the station is QUIET at once with both counts 0; the report slot
and a report in flight are withdrawn, each counting SUPERSEDED (assumption log 26); from ACTIVE alone a leave notice with
the own sequence number, which does not advance, waits in the notice slot; a plant's pump is STOPPING above speed 0 and
STOPPED at 0; a customer's valve drive is stopped: both outputs low, nothing waiting or pending, and a cut pulse leaves its
movement in a known estimate, its direction as the last end, and the dwell timer at 0. The table, the cycle unit, the cap
and the settings stand. A cut pulse has moved for its whole ms (assumption log 13). The first-report flag and the
holding count stand (assumption log 22). -/
def Obligations.LeaveTaken : Prop :=
  (∀ (cfg : ConfigSet) (v : ValveDrive),
    (v.stop cfg).drive = .idle ∧ (v.stop cfg).pending = none ∧
    ((∀ p, v.drive ≠ .pulsing p) → (v.stop cfg).estimate = v.estimate ∧ (v.stop cfg).lastEnd = v.lastEnd ∧
      (v.stop cfg).dwellTimer = v.dwellTimer) ∧
    (∀ p, v.drive = .pulsing p →
      (v.stop cfg).lastEnd = p.direction.asEnd ∧ (v.stop cfg).dwellTimer = 0 ∧
      (p.start = none → (v.stop cfg).estimate = none) ∧
      (∀ e, p.start = some e → (v.stop cfg).estimate = some (match p.direction with
        | .opening => min 10000 (e + p.timer / 8000 * 10 / cfg.travelTime)
        | .closing => e - p.timer / 8000 * 10 / cfg.travelTime)))) ∧
  ∀ s : State, s.selected → s.sc.state ∈ [StationState.listen, .active, .muted] →
    ∃ t, exec .leave s = .next t ∧
      t.sc = { s.sc with state := .quiet, listenCount := 0, muteCount := 0 } ∧
      t.lu.reportSlot = none ∧ t.lu.transmitter.serving .report = false ∧
      (s.sc.state = .active →
        t.lu.noticeSlot = some ⟨.notice ⟨s.sc.address, s.sc.role, s.lu.sequence⟩, 0⟩ ∧
        (s.lu.noticeSlot = none → (s.lu.transmitter = .idle ∨ s.lu.transmitter.serving .report = true) →
          t.lu.transmitter = servedBy s.sc.address t.lu.noticeSlot none)) ∧
      (s.sc.state ≠ .active → t.lu.noticeSlot = s.lu.noticeSlot ∧
        t.lu.transmitter = if s.lu.transmitter.serving .report then servedBy s.sc.address s.lu.noticeSlot none
          else s.lu.transmitter) ∧
      (∀ k : Counter, t.count k = if k = .superseded then
          counted (oneIf s.lu.reportSlot.isSome + oneIf (s.lu.transmitter.inFlightFrom .report)) (s.count k)
        else s.count k) ∧
      (s.sc.role = .plant → t.fe.mode = (if 0 < s.fe.speed then .stopping else .stopped) ∧ t.vd = s.vd) ∧
      (s.sc.role = .customer → t.fe.mode = s.fe.mode ∧ t.vd = s.vd.stop s.cfg) ∧
      t = { s.answered .done [] with
            sc := t.sc, lu.reportSlot := none, lu.noticeSlot := t.lu.noticeSlot, lu.transmitter := t.lu.transmitter,
            fe.mode := t.fe.mode, vd := t.vd, sp.counters := t.sp.counters }

/-- REJOIN in QUIET (R14, R18): LISTEN with the listen count 2; the notice slot and a notice in flight are withdrawn,
uncounted; the table, the cycle unit, the sequence number, the report slot and the cap stand; a plant is FROZEN at its
speed; a customer's known estimate starts nothing, and an UNKNOWN one begins an end-seek, unless one is in flight or
waiting already, which goes on unchanged (R165, Table 9.4). -/
def Obligations.RejoinTaken : Prop :=
  ∀ s : State, s.selected → s.sc.state = .quiet →
    ∃ t, exec .rejoin s = .next t ∧
      t.lu.transmitter = (if s.lu.transmitter.serving .notice then servedBy s.sc.address none s.lu.reportSlot
        else s.lu.transmitter) ∧
      (s.sc.role = .plant → t.fe.mode = .frozen ∧ t.fe.holdingCount = 0 ∧ t.vd = s.vd) ∧
      (s.sc.role = .customer → t.fe = s.fe ∧
        (s.vd.estimate.isSome = true → t.vd = s.vd) ∧
        (s.vd.estimate = none → s.vd.seeking = false → t.vd = s.vd.beginSeek s.cfg) ∧
        (s.vd.seeking = true → t.vd = s.vd)) ∧
      t = { s.answered .done [] with
            sc.state := .listen, sc.listenCount := 2, lu.noticeSlot := none, lu.transmitter := t.lu.transmitter,
            fe.mode := t.fe.mode, fe.holdingCount := t.fe.holdingCount, vd := t.vd }

/-- RESTART in a running station (R14, R19, R84, R100, R165): as one step the computation or hold is gone and the cycle timer
restarts, the table and the queue are empty with no latch set, both slots and the frame in flight are withdrawn and the
sequence number is 0, the cap is 10000, a plant is FROZEN at its speed, a customer's valve is stopped and seeks if its
estimate is UNKNOWN, and the station is in LISTEN with the counts 2 and 0 and the first-report flag clear. Configuration,
straps, settings, latches, figures record, measurement and flow capture stand. SUPERSEDED counts each report withdrawn
(assumption log 26). -/
def Obligations.RestartTaken : Prop :=
  ∀ s : State, s.selected → s.sc.state ≠ .config →
    ∃ t, exec .restart s = .next t ∧
      (s.sc.role = .plant → t.fe.mode = .frozen ∧ t.fe.holdingCount = 0 ∧ t.vd = s.vd) ∧
      (s.sc.role = .customer → t.fe.mode = s.fe.mode ∧ t.fe.holdingCount = s.fe.holdingCount ∧
        t.vd = if (s.vd.stop s.cfg).estimate = none then (s.vd.stop s.cfg).beginSeek s.cfg else s.vd.stop s.cfg) ∧
      (∀ k : Counter, t.count k = if k = .superseded then
          counted (oneIf s.lu.reportSlot.isSome + oneIf (s.lu.transmitter.inFlightFrom .report)) (s.count k)
        else s.count k) ∧
      t = { s.answered .done [] with
            sc := { s.sc with state := .listen, listenCount := 2, muteCount := 0, firstReport := false }
            lu := { s.lu with reportSlot := none, noticeSlot := none, transmitter := .idle, sequence := 0 }
            pt := ⟨[], []⟩, cu := ⟨some 0, .opened⟩, fe.cap := 10000, fe.mode := t.fe.mode
            fe.holdingCount := t.fe.holdingCount, vd := t.vd, sp.counters := t.sp.counters }

/-! ### Measurement -/

/-- A conversion completion, 2.5 ms after the one before it, updates the record of the channel whose turn it is by its
state and the class of its code, stores the unclamped code, and passes the turn on (R21 to R29, R31); entry into ABSENT
sets SENSOR_ABSENT. Nothing else moves but time, which passes to the moment of the completion; a late one is taken at once
(assumption log 4, 5). A filter step is the formula of R24, with filter_shift 0 too (assumption log 12). -/
def Obligations.ConversionCompletes : Prop :=
  ∀ (code : BitVec 12) (s : State) (b : Channel) (sample : Int), s.inReset = false →
    b = s.mu.channels.get s.mu.rotation →
    sample = max (-32768) (min 32767 ((s.cfg.span.get s.mu.rotation).lo +
      (2 * (((max 640 (min 3200 code.toNat) : Nat) - 640 : Int) *
        ((s.cfg.span.get s.mu.rotation).hi - (s.cfg.span.get s.mu.rotation).lo)) + 2560) / 5120)) →
    ∃ t after, exec (.conversionCompletion code) s = .next t ∧
      t = { s.pass (20000 - s.mu.timer) with
            mu := ⟨s.mu.channels.set s.mu.rotation after, s.mu.rotation + 1, 0⟩, sp.latches := t.sp.latches } ∧
      (∀ l : Latch, t.latched l =
        (s.latched l || (l == Latch.sensorAbsent && b.state == ChannelState.faultHold &&
          after.state == ChannelState.absent))) ∧
      (code.toNat < 576 ∨ 3360 < code.toNat →
        (b.state = .unseeded → after = { b with raw := some code }) ∧
        (b.state = .valid → after = ⟨some code, .faultHold, b.filtered, 1, 0⟩) ∧
        (b.state = .faultHold → b.faultHold + 1 < 300 →
          after = ⟨some code, .faultHold, b.filtered, b.faultHold + 1, 0⟩) ∧
        (b.state = .faultHold → 300 ≤ b.faultHold + 1 → after = ⟨some code, .absent, none, 0, 0⟩) ∧
        (b.state = .absent → after = { b with raw := some code, recovery := 0 })) ∧
      (576 ≤ code.toNat → code.toNat ≤ 3360 →
        (b.state = .unseeded → after = ⟨some code, .valid, some sample, 0, 0⟩) ∧
        (∀ f, b.state = .valid → b.filtered = some f → after = { b with
          raw := some code
          filtered := some (max (-32768) (min 32767 (f +
            (max (-32768) (min 32767 (sample - f))) / 2 ^ s.cfg.filterShift))) }) ∧
        (b.state = .faultHold → b.recovery + 1 < 10 →
          after = ⟨some code, .faultHold, b.filtered, 0, b.recovery + 1⟩) ∧
        (b.state = .absent → b.recovery + 1 < 10 →
          after = { b with raw := some code, recovery := b.recovery + 1 }) ∧
        ((b.state = .faultHold ∨ b.state = .absent) → 10 ≤ b.recovery + 1 →
          after = ⟨some code, .valid, some sample, 0, 0⟩))

/-- An accepted rising edge at a counter value (R33 to R36). FLOWIN reads high in two samples against a low accepted
level: a first capture stores the value and forms no flow; a period below 200 µs is noise, counted and otherwise ignored;
a longer one forms the flow. One that comes after the timeout's moment is a first capture (assumption log 18): the elapsed
time then is that of now and the time until the capture, which no wrap of the counter shortens (R36). A capture is two
equal samples, and a high accepted level takes no rising edge (assumption log 17). Two low samples against a high accepted
level arm the next rising edge and capture nothing. The timeout, taken when the elapsed time reaches flow_timeout, clears
the seen-edge flag, the last period and the last flow; with the flag clear there is none. Time passes to the counter value
or to the timeout (assumption log 4); a late timeout is taken at once (assumption log 5). -/
def Obligations.FlowCaptured : Prop :=
  (∀ (v : Word32) (s p : State), s.inReset = false → s.fcu.fraction < 8 →
      p = s.pass ((v - s.fcu.counter).toNat * 8 - s.fcu.fraction) →
      (s.fcu.accepted = true → exec (.flowCapture v) s = .next s) ∧
      (s.fcu.accepted = false → p.fcu.counter = v ∧
        (s.fcu.seenEdge = false → exec (.flowCapture v) s = .next
          { p with fcu := { p.fcu with accepted := true, previous := true, lastCapture := some v, seenEdge := true } }) ∧
        (∀ l, s.fcu.seenEdge = true → s.fcu.lastCapture = some l →
          (s.cfg.flowTimeout * 1000000 < (s.fcu.counter - l).toNat + (v - s.fcu.counter).toNat →
            exec (.flowCapture v) s = .next
              { p with fcu := { p.fcu with
                  accepted := true, previous := true, lastCapture := some v, lastPeriod := none, lastFlow := 0 } }) ∧
          ((s.fcu.counter - l).toNat + (v - s.fcu.counter).toNat ≤ s.cfg.flowTimeout * 1000000 → (v - l).toNat < 200 →
            ∃ t, exec (.flowCapture v) s = .next t ∧
              (∀ k : Counter, t.count k = if k = .flowNoise then counted 1 (s.count k) else s.count k) ∧
              t = { p with fcu := { p.fcu with accepted := true, previous := true }, sp.counters := t.sp.counters }) ∧
          ((s.fcu.counter - l).toNat + (v - s.fcu.counter).toNat ≤ s.cfg.flowTimeout * 1000000 → 200 ≤ (v - l).toNat →
            exec (.flowCapture v) s = .next
              { p with fcu := { p.fcu with
                  accepted := true, previous := true, lastCapture := some v, lastPeriod := some (v - l).toNat
                  lastFlow := min 65535 (s.cfg.flowVp * 10000 / (v - l).toNat) } })))) ∧
  (∀ s : State, s.inReset = false →
    exec .flowinLowAccepted s = .next { s with fcu.accepted := false, fcu.previous := false }) ∧
  (∀ s : State, s.inReset = false → s.fcu.seenEdge = false → exec .flowTimeout s = .next s) ∧
  (∀ (s : State) (l : Word32), s.inReset = false → s.fcu.seenEdge = true → s.fcu.lastCapture = some l →
    s.fcu.fraction < 8 → s.cfg.flowTimeout ≤ 60 → (s.fcu.counter - l).toNat ≤ s.cfg.flowTimeout * 1000000 →
    ∃ d, exec .flowTimeout s = .next { s.pass d with fcu := { (s.pass d).fcu with
        seenEdge := false, lastPeriod := none, lastFlow := 0 } } ∧
      ((s.pass d).fcu.counter - l).toNat = s.cfg.flowTimeout * 1000000) ∧
  (∀ (s : State) (l : Word32), s.inReset = false → s.fcu.seenEdge = true → s.fcu.lastCapture = some l →
    s.cfg.flowTimeout * 1000000 ≤ (s.fcu.counter - l).toNat →
    exec .flowTimeout s = .next { s.pass 0 with fcu := { (s.pass 0).fcu with
      seenEdge := false, lastPeriod := none, lastFlow := 0 } })

/-- What a computation takes in at its start: the channel values (the filtered or held value in VALID and FAULT_HOLD, else
absent) and states, the flow by the rows of R37, the runtime settings and the kept results (R30, R37, R91), the holding count
among them (assumption log 22). The FCU times out at the start exactly where the timeout row of R37 is the one that holds. -/
def Obligations.ComputationTakesIn : Prop :=
  ∀ (s : State) (k : Taken) (e : Nat), k = s.takeIn s.flowGiven → e = (s.fcu.counter - s.fcu.lastCapture.getD 0).toNat →
    (∀ n, k.channelStates.get n = (s.mu.channels.get n).state ∧
      k.channels.get n = if (s.mu.channels.get n).state = .valid ∨ (s.mu.channels.get n).state = .faultHold then
        (s.mu.channels.get n).filtered else none) ∧
    (s.cfg.flowVp = 0 → k.flow = none) ∧
    (s.cfg.flowVp ≠ 0 → (s.fcu.seenEdge = false ∨ s.fcu.lastPeriod = none ∨ s.cfg.flowTimeout * 1000000 ≤ e) →
      k.flow = some 0) ∧
    (∀ period, s.cfg.flowVp ≠ 0 → s.fcu.seenEdge = true → s.fcu.lastPeriod = some period →
      e < s.cfg.flowTimeout * 1000000 →
      k.flow = some (if period < e then min s.fcu.lastFlow (s.cfg.flowVp * 10000 / e) else s.fcu.lastFlow)) ∧
    (s.flowLate = true ↔ s.cfg.flowVp ≠ 0 ∧ s.fcu.seenEdge = true ∧ s.fcu.lastPeriod.isSome = true ∧
      s.cfg.flowTimeout * 1000000 ≤ e) ∧
    k.mTarget = s.cfg.mTarget ∧ k.available = s.sc.available ∧ k.request = s.fe.request ∧ k.mode = s.fe.mode ∧
    k.speed = s.fe.speed ∧ k.integral = s.fe.integral ∧ k.atLimit = s.fe.atLimit ∧
    k.holdingCount = s.fe.holdingCount ∧ k.cap = s.fe.cap ∧ k.lastStarved = s.fe.lastStarved

/-! ### The link -/

/-- A good character in each receiver state (R48 to R50, R53): off and DISCARD take nothing; in HUNT the delimiter starts a
collection, marked own if it began while the transmitter was SENDING, and any other character leads to DISCARD; in COLLECT a
length in 3..16 and the characters after it are stored, and a length outside 3..16 is a format fault. A framing fault leads
from HUNT and COLLECT to DISCARD, and its dominant stop bit restarts the quiet time and a waiting frame's access gap with
the same k, as a busy line does (R40, R56). A format fault counts unless the frame is the station's own. The line was last
dominant before the character's recessive tail (assumption log 21). The next character is the station's own if the
transmitter is SENDING, which it begins back to back (assumption log 20). An idle line ends a fragment, counted unless own,
and leads to HUNT; it comes 2 C after the line was last dominant, rounded up to a whole clock period, and a late one is taken
at once (assumption log 4, 5, 14). -/
def Obligations.CharactersReceived : Prop :=
  (∀ c : Byte, tailClocks c = (2 * ([c.getLsbD 7, c.getLsbD 6, c.getLsbD 5, c.getLsbD 4, c.getLsbD 3, c.getLsbD 2,
    c.getLsbD 1, c.getLsbD 0].takeWhile id).length + 1) * 625 / 6) ∧
  (∀ (c : Byte) (s : State), s.inReset = false →
    ∃ t, exec (.characterCompleted c) s = .next t ∧
      ((s.lu.receiver = .off ∨ s.lu.receiver = .discard) → t.lu.receiver = s.lu.receiver ∧ t.sp = s.sp) ∧
      (s.lu.receiver = .hunt → c = 0xC3 →
        t.lu.receiver = .collect s.lu.beganSending [] ∧ t.sp = s.sp) ∧
      (s.lu.receiver = .hunt → c ≠ 0xC3 → t.lu.receiver = .discard ∧ t.sp = s.sp) ∧
      (∀ own, s.lu.receiver = .collect own [] → 3 ≤ c.toNat → c.toNat ≤ 16 →
        t.lu.receiver = .collect own [c] ∧ t.sp = s.sp) ∧
      (∀ own, s.lu.receiver = .collect own [] → (c.toNat < 3 ∨ 16 < c.toNat) →
        t.lu.receiver = .discard ∧
        ∀ k : Counter, t.count k = if k = .formatErrors ∧ own = false then counted 1 (s.count k) else s.count k) ∧
      (∀ own l rest, s.lu.receiver = .collect own (l :: rest) → rest.length + 1 ≠ l.toNat + 2 →
        t.lu.receiver = .collect own (l :: rest ++ [c]) ∧ t.sp = s.sp) ∧
      ((∀ own l rest, s.lu.receiver = .collect own (l :: rest) → rest.length + 1 ≠ l.toNat + 2) →
        t = { s with lu := t.lu, sp.counters := t.sp.counters } ∧
        t.lu = { s.lu with
          receiver := t.lu.receiver, quiet := min s.lu.quiet (tailClocks c)
          beganSending := s.lu.transmitter.isSending
          transmitter := match s.lu.transmitter with
            | .waiting slot k gap => .waiting slot k (min gap (tailClocks c))
            | other => other })) ∧
  (∀ s : State, s.inReset = false →
    (∀ c own, s.lu.receiver = .collect own [] → (c.toNat < 3 ∨ 16 < c.toNat) →
      exec (.rxFormatFault (.length c)) s = exec (.characterCompleted c) s) ∧
    ∃ t, exec (.rxFormatFault .framing) s = .next t ∧
      t.lu.receiver = (match s.lu.receiver with
        | .off => .off
        | .hunt | .collect _ _ | .discard => .discard) ∧
      (∀ k : Counter, t.count k = match k, s.lu.receiver with
        | .formatErrors, .collect false _ => counted 1 (s.count k)
        | _, _ => s.count k) ∧
      t = { s with
            lu := { s.lu with
              receiver := t.lu.receiver, quiet := 0, beganSending := s.lu.transmitter.isSending
              transmitter := match s.lu.transmitter with
                | .waiting slot k _ => .waiting slot k 0
                | other => other }
            sp.counters := t.sp.counters }) ∧
  (∀ s : State, s.inReset = false →
      exec .lineBusy s = .next
        { s with
          lu.quiet := 0
          lu.transmitter := match s.lu.transmitter with
            | .waiting slot k _ => .waiting slot k 0
            | other => other } ∧
      ∀ p, p = s.pass (4167 - s.lu.quiet) →
        ((s.lu.receiver = .off ∨ s.lu.receiver = .hunt) →
          exec .quietTimeIdle s = .next p) ∧
        (s.lu.receiver = .discard →
          exec .quietTimeIdle s = .next { p with lu.receiver := .hunt }) ∧
        (∀ own cs, s.lu.receiver = .collect own cs →
          ∃ t, exec .quietTimeIdle s = .next t ∧
            (∀ c : Counter, t.count c = if c = .fragments ∧ own = false then counted 1 (s.count c) else s.count c) ∧
            t = { p with lu.receiver := .hunt, sp.counters := t.sp.counters }))

/-- The character that completes a frame (R12, R51 to R53, R66, R67): the receiver is in HUNT whatever the outcome; the
station's own frame moves nothing; a CRC failure, a format failure and a good frame each count; a good frame from another
source is routed to the table or the queue; one with the own address is a conflict, at once and in every cycle unit state:
CONFLICTS and ADDRESS_CONFLICT, and in ACTIVE the station is MUTED with the mute count 8 and its report withdrawn, in MUTED
the count is 8 again, elsewhere nothing more. A report in its slot and one in flight each count SUPERSEDED (assumption log
26). No character that follows a whole frame is the station's own until its next frame begins (assumption log 20). The rest
of the Link Unit stands but for the time since the line was dominant (R40, assumption log 21). -/
def Obligations.FrameCompletes : Prop :=
  ∀ (c l : Byte) (rest : List Byte) (own : Bool) (s : State), s.inReset = false →
    s.lu.receiver = .collect own (l :: rest) → rest.length = l.toNat + 1 →
    exec (.frameComplete c) s = exec (.characterCompleted c) s ∧
    ∃ t, exec (.frameComplete c) s = .next t ∧ t.lu.receiver = .hunt ∧
      t = { s with lu := t.lu, sc := t.sc, pt := t.pt, sp.latches := t.sp.latches, sp.counters := t.sp.counters } ∧
      t.lu.noticeSlot = s.lu.noticeSlot ∧ t.lu.sequence = s.lu.sequence ∧ t.lu.quiet = min s.lu.quiet (tailClocks c) ∧
      t.lu.beganSending = false ∧
      (t.sc.state = s.sc.state → t.lu.reportSlot = s.lu.reportSlot ∧
        t.lu.transmitter = match s.lu.transmitter with
          | .waiting slot k gap => .waiting slot k (min gap (tailClocks c))
          | other => other) ∧
      (own = true → t = { s with lu := t.lu }) ∧
      (own = false → checkFrame (l :: rest ++ [c]) = .crcFailure →
        t = { s with lu := t.lu, sp.counters := s.sp.counters.bump .crcErrors }) ∧
      (own = false → checkFrame (l :: rest ++ [c]) = .formatFailure →
        t = { s with lu := t.lu, sp.counters := s.sp.counters.bump .formatErrors }) ∧
      (∀ f, own = false → checkFrame (l :: rest ++ [c]) = .good f → f.source ≠ s.sc.address →
        t.sc = s.sc ∧ t.pt = (s.route f).pt ∧ t.sp = ((s.bump .framesAccepted).route f).sp) ∧
      (∀ f, own = false → checkFrame (l :: rest ++ [c]) = .good f → f.source = s.sc.address →
        t.pt = s.pt ∧ (∀ x : Latch, t.latched x = (s.latched x || x == Latch.addressConflict)) ∧
        t.count .conflicts = counted 1 (s.count .conflicts) ∧
        t.count .framesAccepted = counted 1 (s.count .framesAccepted) ∧
        (∀ k : Counter, k ∉ [Counter.conflicts, .framesAccepted, .superseded] → t.count k = s.count k) ∧
        (s.sc.state ≠ .active → t.count .superseded = s.count .superseded) ∧
        (s.sc.state = .active → t.sc = { s.sc with state := .muted, muteCount := 8 } ∧ t.lu.reportSlot = none ∧
          t.lu.transmitter.serving .report = false ∧
          t.count .superseded = counted (oneIf s.lu.reportSlot.isSome +
            oneIf (s.lu.transmitter.inFlightFrom .report)) (s.count .superseded)) ∧
        (s.sc.state = .muted → t.sc = { s.sc with muteCount := 8 }) ∧
        (s.sc.state ≠ .active → s.sc.state ≠ .muted → t.sc = s.sc))

/-- When the access gap (3 + k) C of a waiting frame is complete, the frame leaves its slot as the frame in flight with its
attempt count, its start bit is dominant, and the character that begins is the station's own (R40, R53, R54, R56; assumption
log 20); when its last stop bit has been read back, it is gone, a character that begins later is not the station's own, and
the transmitter serves the notice slot, else the report slot, else is IDLE, with k from address, attempt count and sequence
(R53, R55, R56, R59). Times are rounded up to a whole clock period, time passes to these moments, and late ones are taken at
once (assumption log 4, 5, 14, 27). -/
def Obligations.GapCompletesAndFrameSent : Prop :=
  (∀ (x : Transmitter) (slot : Slot),
    (x.inFlightFrom slot = true ↔ ∃ o τ, x = .sending o τ ∧ o.frame.slot = slot) ∧
    (x.serving slot = true ↔ (∃ o τ, x = .sending o τ ∧ o.frame.slot = slot) ∨ ∃ k gap, x = .waiting slot k gap) ∧
    (x.isSending = true ↔ ∃ o τ, x = .sending o τ)) ∧
  (∀ (r : Report) (n : Notice), (Frame.report r).slot = .report ∧ (Frame.notice n).slot = .notice) ∧
  (∀ (s : State) (slot : Slot) (k gap : Nat) (o : Outgoing), s.inReset = false →
    s.lu.transmitter = .waiting slot k gap → s.lu.slot slot = some o →
    ∃ p t, p = s.pass (((3 + k) * 6250 + 2) / 3 - gap) ∧ exec .accessGapComplete s = .next t ∧
      t = { p with
            lu := { p.lu with
              transmitter := .sending o 0, quiet := 0, beganSending := true
              reportSlot := if slot = .report then none else s.lu.reportSlot
              noticeSlot := if slot = .notice then none else s.lu.noticeSlot } }) ∧
  (∀ (s : State) (o : Outgoing) (τ : Nat), s.inReset = false → s.lu.transmitter = .sending o τ →
    ∃ p, p = s.pass ((10 * (o.frame.body.length + 4) * 625 + 2) / 3 - τ) ∧
      exec .frameSent s = .next
        { p with lu := { p.lu with
            transmitter := servedBy s.sc.address s.lu.noticeSlot s.lu.reportSlot, beganSending := false } })

/-- A collision of the frame in flight (R53, R55, R58, R62): COLLISIONS and the attempt count rise, the receiver's mark is
removed, and so is that of a delimiter still on the line (assumption log 20), and the frame is superseded by a newer
report, or returns to its slot while the attempt count is below 6, or is abandoned at the sixth failed attempt, setting
TX_ABANDONED; then the transmitter serves what the slots hold. FRAME_ABANDONED is the collision with the last outcome
(assumption log 6). -/
def Obligations.CollisionEnds : Prop :=
  ∀ (s : State) (o : Outgoing) (τ : Nat), s.inReset = false → s.lu.transmitter = .sending o τ →
    ∃ t, exec .collision s = .next t ∧
      t.lu.transmitter = servedBy s.sc.address t.lu.noticeSlot t.lu.reportSlot ∧
      t = { s with
            lu := { t.lu with sequence := s.lu.sequence, quiet := s.lu.quiet, beganSending := false }
            sp.latches := t.sp.latches, sp.counters := t.sp.counters } ∧
      t.lu.receiver = (match s.lu.receiver with
        | .collect _ cs => .collect false cs
        | other => other) ∧
      (∀ k : Counter, k ∉ [Counter.collisions, .superseded, .abandoned] → t.count k = s.count k) ∧
      t.count .collisions = counted 1 (s.count .collisions) ∧
      (o.frame.slot = .report → s.lu.reportSlot.isSome = true →
        t.lu.reportSlot = s.lu.reportSlot ∧ t.lu.noticeSlot = s.lu.noticeSlot ∧
        t.count .superseded = counted 1 (s.count .superseded) ∧ t.count .abandoned = s.count .abandoned ∧
        t.sp.latches = s.sp.latches) ∧
      ((o.frame.slot = .notice ∨ s.lu.reportSlot = none) → t.count .superseded = s.count .superseded ∧
        (o.attempt + 1 < 6 →
          t.lu.slot o.frame.slot = some ⟨o.frame, o.attempt + 1⟩ ∧
          (o.frame.slot = .report → t.lu.noticeSlot = s.lu.noticeSlot) ∧
          (o.frame.slot = .notice → t.lu.reportSlot = s.lu.reportSlot) ∧
          t.count .abandoned = s.count .abandoned ∧ t.sp.latches = s.sp.latches) ∧
        (6 ≤ o.attempt + 1 →
          exec .frameAbandoned s = .next t ∧
          t.lu.reportSlot = s.lu.reportSlot ∧ t.lu.noticeSlot = s.lu.noticeSlot ∧
          t.count .abandoned = counted 1 (s.count .abandoned) ∧
          ∀ l : Latch, t.latched l = (s.latched l || l == Latch.txAbandoned)))

/-! ### The peer table -/

/-- Applying one report or notice to the table, by Table 4.2 and R77: no entry or another role creates the entry anew and
sets TABLE_CHANGED; RESTARTED refreshes it with the gap count as it was; otherwise the sequence difference modulo 256 drops a
duplicate, refreshes for 1..127 with d − 1 more in the gap count, or rejects; a notice removes the entry there is and sets
TABLE_CHANGED (R72 to R77). Every other entry stands. -/
def Obligations.ReportsAndNoticesApplied : Prop :=
  (∀ (r : Report) (s t : State), t = s.applyFrame (.report r) →
    (∀ a, a ≠ r.source → t.pt.find a = s.pt.find a) ∧
    t = { s with pt.entries := t.pt.entries, sp.latches := t.sp.latches, sp.counters := t.sp.counters } ∧
    ((∀ e, s.pt.find r.source = some e → e.role ≠ r.role) →
      t.pt.find r.source = some
        ⟨r.source, r.role, .fresh, 0, r.sequence, r.flags, r.output, r.margin, r.flow, r.deltaT, r.cap, r.weight, 0, 0⟩ ∧
      (∀ l : Latch, t.latched l = (s.latched l || l == Latch.tableChanged)) ∧ t.sp.counters = s.sp.counters) ∧
    (∀ e d, s.pt.find r.source = some e → e.role = r.role → d = (r.sequence.toNat + 256 - e.lastSequence.toNat) % 256 →
      t.sp.latches = s.sp.latches ∧
      ((r.flags.restarted = true ∨ (1 ≤ d ∧ d ≤ 127)) →
        t.pt.find r.source = some { e with
          state := .fresh, age := 0, lastSequence := r.sequence, flags := r.flags, output := r.output
          margin := r.margin, flow := r.flow, deltaT := r.deltaT, cap := r.cap, weight := r.weight
          gapCount := if r.flags.restarted = true then e.gapCount else min 255 (e.gapCount + (d - 1)) } ∧
        t.sp.counters = s.sp.counters) ∧
      (r.flags.restarted = false → d = 0 → t.pt = s.pt ∧ t.sp.counters = s.sp.counters.bump .duplicates) ∧
      (r.flags.restarted = false → 128 ≤ d → t.pt = s.pt ∧ t.sp.counters = s.sp.counters.bump .seqRejects))) ∧
  (∀ (n : Notice) (s t : State), t = s.applyFrame (.notice n) →
    t.pt.find n.source = none ∧ (∀ a, a ≠ n.source → t.pt.find a = s.pt.find a) ∧
    (s.pt.find n.source = none → t = s) ∧
    (∀ e, s.pt.find n.source = some e → ∀ l : Latch, t.latched l = (s.latched l || l == Latch.tableChanged)) ∧
    t = { s with pt.entries := t.pt.entries, sp.latches := t.sp.latches })

/-- A frame offered to the closed table (R67, R69, R70): it replaces the waiting record of its source in that record's
place, whatever the kinds; else it joins at the end while fewer than 8 wait; else it is discarded, counting OVERRUNS and
setting RX_OVERRUN. At an open table it is applied at once. -/
def Obligations.FramesOfferedToTheQueue : Prop :=
  ∀ (f : Frame) (s : State),
    (s.tableOpen = true ↔ s.cu.state = .opened) ∧
    (s.tableOpen = true → s.route f = s.applyFrame f) ∧
    (s.tableOpen = false → (s.pt.queue.map Frame.source).Nodup →
      (f.source ∈ s.pt.queue.map Frame.source →
        s.route f = { s with pt.queue := s.pt.queue.map fun x => if x.source = f.source then f else x }) ∧
      (f.source ∉ s.pt.queue.map Frame.source → s.pt.queue.length < 8 →
        s.route f = { s with pt.queue := s.pt.queue ++ [f] }) ∧
      (f.source ∉ s.pt.queue.map Frame.source → 8 ≤ s.pt.queue.length →
        ∃ t, s.route f = t ∧ (∀ l : Latch, t.latched l = (s.latched l || l == Latch.rxOverrun)) ∧
          t = { s with sp.latches := t.sp.latches, sp.counters := s.sp.counters.bump .overruns }))

/-! ### The control cycle -/

/-- A boundary, when the cycle timer reaches cycle_period, by cycle unit state (R78 to R80, R85, R86, R88, R89, R90): in OPEN
one aging pass and a computation starts; in HELD none, and the CU is HELD_PENDING; in HELD_PENDING HOLD_OVERRUN, two passes,
and the deferred computation starts. The timer restarts, and the queue, the station and the drives stand. Time passes to the
boundary; a late one is taken at once (assumption log 4, 5). -/
def Obligations.BoundaryTaken : Prop :=
  (∀ fe : FiguresEngine, fe.indexAddress = match fe.record with
    | none => none
    | some r => r.index.map Prod.snd) ∧
  ∀ (s p : State) (τ : Nat), s.inReset = false → s.cu.timer = some τ → p = s.pass (s.cfg.cyclePeriod * 8000 - τ) →
    (s.cu.state = .held → exec .boundary s = .next { p with cu := ⟨some 0, .heldPending⟩ }) ∧
    (s.cu.state = .opened →
      ∃ t, exec .boundary s = .next t ∧ t.pt = ⟨passOver s.cfg.staleLimit s.pt.entries, s.pt.queue⟩ ∧
        t.cu = ⟨some 0, .calc (p.takeIn p.flowGiven)⟩ ∧
        (∀ l : Latch, t.latched l = (s.latched l ||
          (l == Latch.tableChanged && passRemoves s.cfg.staleLimit s.pt.entries (fun _ => true)) ||
          (l == Latch.indexLost &&
            passRemoves s.cfg.staleLimit s.pt.entries (fun a => s.fe.indexAddress == some a)))) ∧
        t = { p with pt := t.pt, cu := t.cu, fcu := t.fcu, sp.latches := t.sp.latches } ∧
        t.fcu = if p.flowLate then { p.fcu with seenEdge := false, lastPeriod := none, lastFlow := 0 } else p.fcu) ∧
    (s.cu.state = .heldPending →
      ∃ t, exec .boundary s = .next t ∧
        t.pt = ⟨passOver s.cfg.staleLimit (passOver s.cfg.staleLimit s.pt.entries), s.pt.queue⟩ ∧
        t.cu = ⟨some 0, .calc (p.takeIn p.flowGiven)⟩ ∧
        (∀ l : Latch, t.latched l = (s.latched l || l == Latch.holdOverrun ||
          (l == Latch.tableChanged && (passRemoves s.cfg.staleLimit s.pt.entries (fun _ => true) ||
            passRemoves s.cfg.staleLimit (passOver s.cfg.staleLimit s.pt.entries) (fun _ => true))) ||
          (l == Latch.indexLost &&
            (passRemoves s.cfg.staleLimit s.pt.entries (fun a => s.fe.indexAddress == some a) ||
              passRemoves s.cfg.staleLimit (passOver s.cfg.staleLimit s.pt.entries)
                (fun a => s.fe.indexAddress == some a))))) ∧
        t = { p with pt := t.pt, cu := t.cu, fcu := t.fcu, sp.latches := t.sp.latches } ∧
        t.fcu = if p.flowLate then { p.fcu with seenEdge := false, lastPeriod := none, lastFlow := 0 } else p.fcu)

/-- A hold ends no later than the second boundary after it was taken, and one computation is deferred at most: the first
boundary leaves the table as it is, the second forces the release with HOLD_OVERRUN and two passes (R89, R90, R97). BOUNDARY
comes at its own moment, and a late one at once (assumption log 4, 5). -/
def Obligations.HoldEndsAtSecondBoundary : Prop :=
  ∀ (s : State), s.selected → s.sc.state ≠ .config → s.cu.timer.isSome = true → s.cu.state = .opened →
    ∃ t u v k, exec .hold s = .next t ∧ exec .boundary t = .next u ∧ exec .boundary u = .next v ∧
      t.cu.state = .held ∧ u.cu.state = .heldPending ∧ v.cu.state = .calc k ∧
      t.pt = s.pt ∧ u.pt = s.pt ∧ u.fe = s.fe ∧ v.fe = s.fe ∧ u.sp.latches = s.sp.latches ∧
      v.pt.entries = passOver s.cfg.staleLimit (passOver s.cfg.staleLimit s.pt.entries) ∧
      v.pt.queue = s.pt.queue ∧ v.latched .holdOverrun = true

/-- What a plant's completion commits (R86, R92, R93, R114 to R117, R119, R120): it comes 2 ms and 1 ms for each entry after
the start; the record is published, the pump results of the law for the station state at the completion are kept, the
Plant Drive receives the speed, and the starved condition moves STARVED_CYCLES and STARVED_ENTERED. Entry into ACTIVE from
LISTEN takes the pump out of FROZEN by its speed and the stored availability (R11, R121): above 0 to RUN or STOPPING, at 0 to
STOPPED without availability, and FROZEN is kept with it. Time
passes to the completion; a late one is taken at once (assumption log 4, 5). -/
def Obligations.PlantCompletionCommits : Prop :=
  ∀ (s : State) (τ : Nat) (k : Taken) (f : Figures) (r : PlantResult), s.inReset = false → s.sc.role = .plant →
    s.cu = ⟨some τ, .calc k⟩ → f = figures s.sc s.cfg k s.pt.entries → r = plantLaw s.sc.state s.cfg k f →
    ∃ p t, p = s.pass ((2 + s.pt.entries.length) * 8000 - τ) ∧ exec .computationCompletion s = .next t ∧
      t.fe = { s.fe with
        record := some
          { stationState := s.sc.state, role := .plant, channels := k.channels, channelStates := k.channelStates
            sensorFault := k.channelStates.toList.any (· != .valid), flow := k.flow, dp := f.dp, margin := f.margin
            deltaT := f.deltaT, deficit := f.deficit, candidateCount := f.candidateCount, index := f.index
            ownIndex := f.ownIndex, availableCount := f.availableCount, selfAvailable := f.selfAvailable
            totalFlow := f.totalFlow, weightSum := f.weightSum, allAtLimit := f.allAtLimit, starved := f.starved
            results := .plant r.mode r.speed r.integral r.atLimit }
        mode :=
          if s.sc.state = .listen ∧ s.sc.listenCount ≤ 1 then
            if 0 < r.speed then (if s.sc.available = true then .run else .stopping)
            else if s.sc.available = true then .frozen else .stopped
          else r.mode
        speed := r.speed, integral := r.integral, atLimit := r.atLimit, holdingCount := r.holdingCount
        lastStarved := f.starved } ∧
      t.pd = { p.pd with command := r.speed } ∧ t.vd = s.vd ∧ t.mu = p.mu ∧ t.fcu = p.fcu ∧ t.cfg = s.cfg ∧
      t.count .starvedCycles = counted (oneIf f.starved) (s.count .starvedCycles) ∧
      t.latched .starvedEntered = (s.latched .starvedEntered || (f.starved && !s.fe.lastStarved))

/-- What a customer's completion commits (R114, R115, R138, R140 to R146): in ACTIVE and MUTED the cap relaxes when the
network is not starved, falls by the yield step when it is and the station is neither the index nor without a deficit, and
else stands; in LISTEN, ACTIVE and MUTED the Valve Drive receives the least of the request taken in, the stored request
and the cap; in QUIET cap and valve stand and no target is issued. The record is published whole. Time passes to the
completion; a late one is taken at once (assumption log 4, 5). -/
def Obligations.CustomerCompletionCommits : Prop :=
  ∀ (s : State) (τ : Nat) (k : Taken) (f : Figures), s.inReset = false → s.sc.role = .customer →
    s.cu = ⟨some τ, .calc k⟩ → k.cap = s.fe.cap → f = figures s.sc s.cfg k s.pt.entries →
    ∃ p t, p = s.pass ((2 + s.pt.entries.length) * 8000 - τ) ∧ exec .computationCompletion s = .next t ∧
      t.fe = { s.fe with record := t.fe.record, cap := t.fe.cap, lastStarved := f.starved } ∧
      (s.sc.state = .active ∨ s.sc.state = .muted →
        (f.starved = false → t.fe.cap = min 10000 (s.fe.cap + s.cfg.relax)) ∧
        (f.starved = true → f.ownIndex = false → 0 < f.deficit →
          t.fe.cap = max s.cfg.capFloor
            (s.fe.cap - min s.cfg.stepMax (f.deficit * s.cfg.yieldGain / 2 ^ s.cfg.yieldShift))) ∧
        (f.starved = true → (f.ownIndex = true ∨ f.deficit = 0) → t.fe.cap = s.fe.cap)) ∧
      (s.sc.state = .listen ∨ s.sc.state = .quiet → t.fe.cap = s.fe.cap) ∧
      (s.sc.state ≠ .config → ∃ target,
        t.fe.record = some
          { stationState := s.sc.state, role := .customer, channels := k.channels, channelStates := k.channelStates
            sensorFault := k.channelStates.toList.any (· != .valid), flow := k.flow, dp := f.dp, margin := f.margin
            deltaT := f.deltaT, deficit := f.deficit, candidateCount := f.candidateCount, index := f.index
            ownIndex := f.ownIndex, availableCount := f.availableCount, selfAvailable := f.selfAvailable
            totalFlow := f.totalFlow, weightSum := f.weightSum, allAtLimit := f.allAtLimit, starved := f.starved
            results := .customer k.request t.fe.cap target } ∧
        (s.sc.state ≠ .quiet → target = some (min k.request (min s.fe.request t.fe.cap)) ∧
          t.vd = p.vd.target s.cfg (min k.request (min s.fe.request t.fe.cap))) ∧
        (s.sc.state = .quiet → target = none ∧ t.vd = p.vd)) ∧
      t.pd = s.pd ∧ t.mu = p.mu ∧ t.fcu = p.fcu ∧ t.cfg = s.cfg ∧
      t.count .starvedCycles = counted (oneIf f.starved) (s.count .starvedCycles) ∧
      t.latched .starvedEntered = (s.latched .starvedEntered || (f.starved && !s.fe.lastStarved))

/-- What a completion does in the Link Unit, the Station Controller and the Peer Table, by the station state it finds (R10,
R11, R13, R44 to R46, R60 to R62, R71, R93, R148): in ACTIVE a report with the advanced sequence number, RESTARTED from the
first-report flag, is placed, replacing one that waits; in MUTED the number advances and nothing is placed; elsewhere
neither. The counts step last. The table opens and the queue is applied, oldest first, each application raising its latches
and counters as at an open table (R71); with STARVED_ENTERED, STARVED_CYCLES (R114) and SUPERSEDED (R62) these are all that
move, and the response and the select condition stand. Time passes to the
completion; a late one is taken at once (assumption log 4, 5). -/
def Obligations.CompletionReportsAndOpens : Prop :=
  ∀ (s : State) (τ : Nat) (k : Taken) (f : Figures), s.inReset = false → s.cu = ⟨some τ, .calc k⟩ →
    f = figures s.sc s.cfg k s.pt.entries →
    ∃ p t, p = s.pass ((2 + s.pt.entries.length) * 8000 - τ) ∧ exec .computationCompletion s = .next t ∧
      t.cu = ⟨p.cu.timer, .opened⟩ ∧ t.pt.queue = [] ∧
      t.pt.entries = (s.pt.queue.foldl State.applyFrame s).pt.entries ∧ t.tableOpen = true ∧
      t.sp = { s.sp with latches := t.sp.latches, counters := t.sp.counters } ∧
      (∀ x : Latch, t.latched x = ((s.pt.queue.foldl State.applyFrame s).latched x ||
        (x == Latch.starvedEntered && f.starved && !s.fe.lastStarved))) ∧
      (∀ c : Counter, c ≠ .superseded → c ≠ .starvedCycles →
        t.count c = (s.pt.queue.foldl State.applyFrame s).count c) ∧
      t.count .starvedCycles = counted (oneIf f.starved) (s.count .starvedCycles) ∧
      t.lu.sequence = (if s.sc.state = .active ∨ s.sc.state = .muted then s.lu.sequence + 1 else s.lu.sequence) ∧
      t.lu.noticeSlot = s.lu.noticeSlot ∧ t.lu.receiver = s.lu.receiver ∧
      (s.sc.state ≠ .active → t.lu.reportSlot = s.lu.reportSlot ∧ t.lu.transmitter = p.lu.transmitter ∧
        t.count .superseded = s.count .superseded) ∧
      (s.sc.state = .active →
        t.count .superseded = counted (oneIf s.lu.reportSlot.isSome) (s.count .superseded) ∧
        (s.lu.transmitter = .idle → t.lu.transmitter = servedBy s.sc.address t.lu.noticeSlot t.lu.reportSlot) ∧
        (∀ x g, s.lu.transmitter = .waiting .report x g →
          t.lu.transmitter = servedBy s.sc.address none t.lu.reportSlot) ∧
        ((s.lu.transmitter.isSending = true ∨ ∃ x g, s.lu.transmitter = .waiting .notice x g) →
          t.lu.transmitter = p.lu.transmitter) ∧
        ∃ r : Report, t.lu.reportSlot = some ⟨.report r, 0⟩ ∧
          r.source = s.sc.address ∧ r.role = s.sc.role ∧ r.sequence = s.lu.sequence + 1 ∧
          r.flags.restarted = s.sc.firstReport ∧ r.flags.starved = f.starved ∧
          r.flags.indexNone = f.index.isNone ∧ r.flags.sensorFault = k.channelStates.toList.any (· != .valid) ∧
          r.margin = f.margin ∧ r.flow = k.flow ∧ r.deltaT = f.deltaT ∧
          (s.sc.role = .plant → r.output = t.fe.speed ∧ r.cap = none ∧ r.weight = some s.cfg.weight ∧
            r.flags.atLimit = t.fe.atLimit ∧ r.flags.yielding = false ∧
            r.flags.available = (k.available && t.fe.mode != .stopped && t.fe.mode != .stopping)) ∧
          (s.sc.role = .customer → r.output = min k.request (min s.fe.request t.fe.cap) ∧ r.weight = none ∧
            r.flags.available = false ∧ r.flags.atLimit = false ∧
            r.flags.yielding = decide (t.fe.cap < 10000) ∧
            r.cap = if t.fe.cap < 10000 then some t.fe.cap else none)) ∧
      t.sc =
        match s.sc.state with
        | .active => { s.sc with firstReport := false }
        | .listen =>
          if s.sc.listenCount ≤ 1 then { s.sc with state := .active, listenCount := 0, muteCount := 0, firstReport := true }
          else { s.sc with listenCount := s.sc.listenCount - 1 }
        | .muted =>
          if s.sc.muteCount ≤ 1 then { s.sc with state := .active, listenCount := 0, muteCount := 0, firstReport := true }
          else { s.sc with muteCount := s.sc.muteCount - 1 }
        | .quiet | .config => s.sc

/-- The six rows that name an outcome are the conversion, the completion or the boundary that has it (assumption log 6):
CHANNEL_ABSENT and CHANNEL_RECOVERED (R28, R29), ENTER_ACTIVE (R11, R13), ENTER_FALLBACK (R133), ENTRY_STALE (R79) and
ENTRY_REMOVED (R80). -/
def Obligations.OutcomeRowsAreTheirEvents : Prop :=
  (∀ (n : Fin 4) (code : BitVec 12) (s : State), s.inReset = false → s.mu.rotation = n →
    (code.toNat < 576 ∨ 3360 < code.toNat) → (s.mu.channels.get n).state = .faultHold →
    300 ≤ (s.mu.channels.get n).faultHold + 1 →
    exec (.channelAbsent n code) s = exec (.conversionCompletion code) s ∧
    ∃ t, exec (.channelAbsent n code) s = .next t ∧ t.mu.channels.get n = ⟨some code, .absent, none, 0, 0⟩ ∧
      t.latched .sensorAbsent = true) ∧
  (∀ (n : Fin 4) (code : BitVec 12) (s : State), s.inReset = false → s.mu.rotation = n →
    576 ≤ code.toNat → code.toNat ≤ 3360 →
    ((s.mu.channels.get n).state = .faultHold ∨ (s.mu.channels.get n).state = .absent) →
    10 ≤ (s.mu.channels.get n).recovery + 1 →
    exec (.channelRecovered n code) s = exec (.conversionCompletion code) s ∧
    ∃ t x, exec (.channelRecovered n code) s = .next t ∧ t.mu.channels.get n = ⟨some code, .valid, some x, 0, 0⟩ ∧
      t.sp = s.sp) ∧
  (∀ (s : State) (τ : Nat) (k : Taken), s.inReset = false → s.cu = ⟨some τ, .calc k⟩ →
    (s.sc.state = .listen ∧ s.sc.listenCount = 1 ∨ s.sc.state = .muted ∧ s.sc.muteCount = 1) →
    exec .enterActive s = exec .computationCompletion s ∧
    ∃ t, exec .enterActive s = .next t ∧ t.sc.state = .active ∧ t.sc.firstReport = true ∧ t.sc.listenCount = 0 ∧
      t.sc.muteCount = 0 ∧ t.fe.speed = (if s.sc.role = .plant then
        (plantLaw s.sc.state s.cfg k (figures s.sc s.cfg k s.pt.entries)).speed else s.fe.speed)) ∧
  (∀ (s : State) (τ : Nat) (k : Taken), s.inReset = false → s.cu = ⟨some τ, .calc k⟩ → s.sc.role = .plant →
    (s.sc.state = .active ∨ s.sc.state = .muted) → s.fe.mode = .holding → k.mode = .holding → k.available = true →
    (figures s.sc s.cfg k s.pt.entries).index = none → s.cfg.staleLimit ≤ k.holdingCount + 1 →
    exec .enterFallback s = exec .computationCompletion s ∧
    ∃ t, exec .enterFallback s = .next t ∧ t.fe.mode = .fallback ∧ t.fe.speed = k.speed ∧ t.fe.integral = k.speed ∧
      t.fe.holdingCount = 0 ∧ t.pd.command = k.speed) ∧
  (∀ (a : Byte) (s : State) (e : Entry), s.inReset = false → s.cu.timer.isSome = true → s.cu.state = .opened →
    s.pt.find a.toNat = some e → e.state = .fresh → s.cfg.staleLimit ≤ e.age + 1 → e.age + 1 < 2 * s.cfg.staleLimit →
    exec (.entryStale a) s = exec .boundary s ∧
    ∃ t, exec (.entryStale a) s = .next t ∧ t.pt.find a.toNat =
      some { e with age := e.age + 1, presentFor := min 65535 (e.presentFor + 1), state := .stale }) ∧
  (∀ (a : Byte) (s : State) (e : Entry), s.inReset = false → s.cu.timer.isSome = true → s.cu.state = .opened →
    s.tableLaw → s.pt.find a.toNat = some e → 2 * s.cfg.staleLimit ≤ e.age + 1 →
    exec (.entryRemoved a) s = exec .boundary s ∧
    ∃ t, exec (.entryRemoved a) s = .next t ∧ t.pt.find a.toNat = none ∧ t.latched .tableChanged = true ∧
      (s.fe.indexAddress = some a.toNat → t.latched .indexLost = true))

/-! ### Figures and laws -/

/-- The figures of a computation (R104 to R113): dp, margin and dT saturate and are absent when an operand is; the deficit is
dt_design less dT, 0 from dt_design up, and dt_design itself with dT absent; the index is the least margin among the own one
and those of customer entries, FRESH or STALE, the lowest address of equals, and none for none; the available plants are
the FRESH entries with AVAILABLE and the station itself while it runs; all-at-limit holds when each of them is at its limit,
and so when there is none; the network is starved when the index margin is below 0 and all-at-limit holds. The candidate count
is the number of margins among which the index is searched. -/
def Obligations.FiguresFormed : Prop :=
  ∀ (sc : StationController) (cfg : ConfigSet) (k : Taken) (es : List Entry) (f : Figures), f = figures sc cfg k es →
    (∀ a b, k.channels.c0 = some a → k.channels.c1 = some b → f.dp = some (max (-32768) (min 32767 (a - b)))) ∧
    (k.channels.c0 = none ∨ k.channels.c1 = none → f.dp = none) ∧
    (∀ d, sc.role = .customer → f.dp = some d → f.margin = some (max (-32768) (min 32767 (d - cfg.dpReq)))) ∧
    (sc.role = .plant ∨ f.dp = none → f.margin = none) ∧
    (∀ a b, k.channels.c3 = some a → k.channels.c2 = some b → f.deltaT = some (max (-32768) (min 32767 (a - b)))) ∧
    (k.channels.c3 = none ∨ k.channels.c2 = none → f.deltaT = none) ∧
    (f.deltaT = none → f.deficit = cfg.dtDesign) ∧
    (∀ d, f.deltaT = some d → (cfg.dtDesign : Int) ≤ d → f.deficit = 0) ∧
    (∀ d, f.deltaT = some d → d < cfg.dtDesign → (f.deficit : Int) = min 65535 (cfg.dtDesign - d)) ∧
    (∀ m a, f.index = some (m, a) ↔
      ((f.margin = some m ∧ a = sc.address) ∨
        ∃ e ∈ es, e.role = .customer ∧ e.margin = some m ∧ e.address = a) ∧
      (∀ x, f.margin = some x → m < x ∨ (m = x ∧ a ≤ sc.address)) ∧
      (∀ e ∈ es, ∀ x, e.role = .customer → e.margin = some x → m < x ∨ (m = x ∧ a ≤ e.address))) ∧
    f.candidateCount = oneIf f.margin.isSome +
      (es.filter (fun e => e.role == Role.customer && e.margin.isSome)).length ∧
    (f.ownIndex = true ↔ ∃ m, f.index = some (m, sc.address)) ∧
    (f.selfAvailable = true ↔ sc.role = .plant ∧ (sc.state = .active ∨ sc.state = .muted) ∧ k.available = true ∧
      (k.mode = .run ∨ k.mode = .holding ∨ k.mode = .fallback)) ∧
    (f.allAtLimit = true ↔ (f.selfAvailable = true → k.atLimit = true) ∧
      ∀ e ∈ es, e.role = .plant → e.state = .fresh → e.flags.available = true → e.flags.atLimit = true) ∧
    (f.starved = true ↔ (∃ m a, f.index = some (m, a) ∧ m < 0) ∧
      (f.selfAvailable = true → k.atLimit = true) ∧
      ∀ e ∈ es, e.role = .plant → e.state = .fresh → e.flags.available = true → e.flags.atLimit = true) ∧
    (∀ members, members = es.filter (fun e => e.role == Role.plant && e.state == PeerState.fresh && e.flags.available) →
      f.availableCount = members.length + oneIf f.selfAvailable ∧
      f.totalFlow = (members.map fun e => e.flow.getD 0).sum + (if f.selfAvailable then k.flow.getD 0 else 0) ∧
      f.weightSum = (members.map fun e => e.weight.getD 0).sum + (if f.selfAvailable then cfg.weight else 0))

/-- What the plant law commits at a completion, by the station state (R120): in LISTEN the pump is FROZEN at the speed and
the integral taken in (R122); in QUIET it makes a step of the stop sequence whatever mode was taken in (R125); in ACTIVE
and MUTED the table of R123 with the speeds it names: the start (R124), the stop sequence, HOLDING and its count (R133),
FALLBACK ramped toward fallback_speed, its rise blocked by a high header (R134), and the return of the index with the
integral clamped to 0..10000 (R127, R129, R135). AT_LIMIT is as R132 gives. FROZEN with a speed above 0, which R121 says
cannot be taken in there, is held (assumption log 15). -/
def Obligations.PumpModesCommitted : Prop :=
  ∀ (x : StationState) (cfg : ConfigSet) (k : Taken) (f : Figures) (r : PlantResult), r = plantLaw x cfg k f →
    (x = .listen ∨ ((x = .active ∨ x = .muted) ∧ k.mode = .frozen ∧ 0 < k.speed) →
      r.mode = .frozen ∧ r.speed = k.speed ∧ r.integral = k.integral ∧ r.holdingCount = 0) ∧
    (x = .quiet ∨ ((x = .active ∨ x = .muted) ∧
        (k.mode = .stopping ∨ ((k.mode = .run ∨ k.mode = .holding ∨ k.mode = .fallback) ∧ k.available = false))) →
      r.integral = k.integral ∧ r.atLimit = false ∧ r.holdingCount = 0 ∧
      (cfg.speedMin < k.speed → r.speed = max cfg.speedMin (k.speed - cfg.ramp)) ∧
      (k.speed ≤ cfg.speedMin → r.speed = 0) ∧ r.mode = if r.speed = 0 then .stopped else .stopping) ∧
    (x = .active ∨ x = .muted →
      ((k.mode = .stopped ∨ (k.mode = .frozen ∧ k.speed = 0)) → k.available = false →
        r.mode = .stopped ∧ r.speed = 0 ∧ r.integral = k.integral ∧ r.atLimit = false ∧ r.holdingCount = 0) ∧
      ((k.mode = .stopped ∨ (k.mode = .frozen ∧ k.speed = 0)) → k.available = true →
        r.mode = .run ∧ r.speed = cfg.speedMin ∧ r.integral = cfg.speedMin ∧ r.holdingCount = 0) ∧
      (k.mode = .run → k.available = true → f.index = none →
        r.mode = .holding ∧ r.holdingCount = 1 ∧ r.speed = k.speed ∧ r.integral = k.speed) ∧
      (k.mode = .run → k.available = true → f.index.isSome = true → r.mode = .run ∧ r.holdingCount = 0) ∧
      (k.mode = .holding → k.available = true → f.index = none → r.speed = k.speed ∧ r.integral = k.speed ∧
        (k.holdingCount + 1 < cfg.staleLimit → r.mode = .holding ∧ r.holdingCount = k.holdingCount + 1) ∧
        (cfg.staleLimit ≤ k.holdingCount + 1 → r.mode = .fallback ∧ r.holdingCount = 0)) ∧
      (k.mode = .fallback → k.available = true → f.index = none →
        r.mode = .fallback ∧ r.integral = r.speed ∧ r.holdingCount = 0 ∧
        ∀ y : Int, y = max ((k.speed : Int) - cfg.ramp) (min ((k.speed : Int) + cfg.ramp) cfg.fallbackSpeed) →
          ((∀ d, f.dp = some d → d ≤ cfg.hdrDpMax) → (r.speed : Int) = y) ∧
          (∀ d, f.dp = some d → (cfg.hdrDpMax : Int) < d → (r.speed : Int) = min y k.speed)) ∧
      (∀ (m p sh : Int) (a : Nat), (k.mode = .holding ∨ k.mode = .fallback) → k.available = true →
        f.index = some (m, a) →
        p = max (-32768) (min 32767 (max (-32768) (min 32767 (k.mTarget - m)) * cfg.kp / 64)) →
        sh = (match k.flow with
          | some own => if 2 ≤ f.availableCount ∧ f.selfAvailable = true then
              max (-32768) (min 32767 (max (-32768) (min 32767
                (((min 65535 (f.totalFlow * cfg.weight / f.weightSum) : Nat) : Int) - own)) * cfg.ks / 256)) else 0
          | none => 0) →
        r.mode = .run ∧ r.speed = k.speed ∧ r.holdingCount = 0 ∧
        (r.integral : Int) = max 0 (min 10000 ((k.speed : Int) - p - sh)))) ∧
    (r.mode ≠ .stopped → r.mode ≠ .stopping →
      (r.atLimit = true ↔ r.speed = cfg.speedMax ∨ ∃ d, f.dp = some d ∧ (cfg.hdrDpMax : Int) < d))

/-- The return of the index is bumpless (R127 to R131, R135): where the clamp of the integral does not act, the next RUN
computation on the same figures whose integral step is 0 holds the speed that the return held. -/
def Obligations.ReturnIsBumpless : Prop :=
  ∀ (x : StationState) (cfg : ConfigSet) (k k2 : Taken) (f : Figures) (r : PlantResult) (m p sh : Int) (a : Nat),
    (x = .active ∨ x = .muted) → (k.mode = .holding ∨ k.mode = .fallback) → k.available = true → f.index = some (m, a) →
    r = plantLaw x cfg k f → cfg.speedOk k.speed → cfg.speedMax ≤ 10000 →
    p = proportional cfg.kp (plantError k.mTarget m) → sh = shareTerm cfg k f →
    0 ≤ (k.speed : Int) - p - sh → (k.speed : Int) - p - sh ≤ 10000 →
    integralStep cfg.ki (plantError k.mTarget m) = 0 →
    k2 = { k with mode := r.mode, speed := r.speed, integral := r.integral, atLimit := r.atLimit } →
    r.speed = k.speed ∧ (r.integral : Int) = k.speed - p - sh ∧
    (plantLaw x cfg k2 f).speed = k.speed ∧ (plantLaw x cfg k2 f).integral = r.integral

/-- The RUN law in ACTIVE and MUTED (R123, R127 to R132): the speed is the sum of the proportional term, the integral and the
share term, clamped to the speed limits, held down while the header pressure is above hdr_dp_max, and moved by at most ramp
from the speed taken in. -/
def Obligations.RunLawFormed : Prop :=
  ∀ (x : StationState) (cfg : ConfigSet) (k : Taken) (f : Figures) (r : PlantResult) (m e p i sh u : Int) (a : Nat),
    (x = .active ∨ x = .muted) → k.mode = .run → k.available = true → f.index = some (m, a) →
    r = plantLaw x cfg k f → cfg.speedOk k.speed →
    e = max (-32768) (min 32767 (k.mTarget - m)) →
    p = max (-32768) (min 32767 (e * cfg.kp / 64)) →
    i = (if (0 < e * cfg.ki / 1024 ∧ k.atLimit = true) ∨ (e * cfg.ki / 1024 < 0 ∧ k.speed = cfg.speedMin) then
        (k.integral : Int) else max 0 (min 10000 (k.integral + e * cfg.ki / 1024))) →
    sh = (match k.flow with
      | some own => if 2 ≤ f.availableCount ∧ f.selfAvailable = true then
          max (-32768) (min 32767 (max (-32768) (min 32767
            (((min 65535 (f.totalFlow * cfg.weight / f.weightSum) : Nat) : Int) - own)) * cfg.ks / 256)) else 0
      | none => 0) →
    u = max (cfg.speedMin : Int) (min (cfg.speedMax : Int) (max (-32768) (min 32767 (p + i + sh)))) →
    (r.integral : Int) = i ∧
    ((∀ d, f.dp = some d → d ≤ cfg.hdrDpMax) →
      (r.speed : Int) = max ((k.speed : Int) - cfg.ramp) (min ((k.speed : Int) + cfg.ramp) u)) ∧
    (∀ d, f.dp = some d → (cfg.hdrDpMax : Int) < d →
      (r.speed : Int) = max ((k.speed : Int) - cfg.ramp) (min u k.speed) ∧ r.atLimit = true)

/-! ### Outputs and the valve -/

/-- The output pins follow the state (Table 0.1, R136, R137, R152, R175): a plant's OUTA is high for speed × 800 / 10000 clock
periods of its PWM period, rounded to nearest, and its OUTB while its speed command is above 0; a customer's OUTA and OUTB are
high while an opening and a closing pulse is driven; ATTN is high exactly while a latch is set. LTX is high but while SENDING,
and then it is the level of the bit being sent, the frame's characters after the delimiter, each with a low start bit, its
bits least significant first and a high stop bit, at 38,400 bit/s (R40, R41, R42, R57). The place of the high part in a PWM
period and the bit a clock period falls in are the model's (assumption log 11, 14). -/
def Obligations.OutputsFollowState : Prop :=
  (∀ s : State, s.inReset = false → s.sc.role = .plant →
    s.outA = decide (s.pd.phase < s.pd.high) ∧ s.outB = decide (0 < s.pd.command)) ∧
  (∀ s : State, s.inReset = false → s.sc.role = .customer →
    (s.outA = true ↔ ∃ p, s.vd.drive = .pulsing p ∧ p.direction = .opening) ∧
    (s.outB = true ↔ ∃ p, s.vd.drive = .pulsing p ∧ p.direction = .closing)) ∧
  (∀ (d : Nat) (s : State), s.sc.role = .plant → s.pd.phase < 800 → 800 ≤ s.pd.phase + d →
    2 * 10000 * (s.pass d).pd.high ≤ 2 * s.pd.command * 800 + 10000 ∧
    2 * s.pd.command * 800 + 10000 < 2 * 10000 * ((s.pass d).pd.high + 1) ∧ (s.pass d).pd.phase < 800) ∧
  (∀ s : State, s.attn = true ↔ ∃ l, s.latched l = true) ∧
  (∀ s : State, s.inReset = false →
    (s.lu.transmitter.isSending = false → s.ltx = true) ∧
    ∀ (o : Outgoing) (τ : Nat) (levels : List Bool), s.lu.transmitter = .sending o τ →
      levels = ((0xC3 : Byte) :: o.frame.characters).flatMap
        (fun c => false :: (List.range 8).map (fun n => c.getLsbD n) ++ [true]) →
      s.ltx = levels.getD (τ * 3 / 625) true)

/-- What ends a pulse, a dwell and a seek (R153, R154, R160, R161, R163): at its length a trim pulse leaves the estimate it
reckons and an end pulse its end, with its direction as the last end and the dwell timer at 0; when the dwell timer reaches
dwell the waiting pulse starts, or the VD is IDLE; at its length a seek leaves the end it was driven to and acts on the
target pending. The Valve Drive of a customer alone moves, with the time up to that moment; a late end is taken at once
(assumption log 4, 5, 13). -/
def Obligations.ValveEndsTaken : Prop :=
  (Direction.opening.asEnd = .opening ∧ Direction.closing.asEnd = .closing) ∧
  ∀ s : State, s.inReset = false → s.sc.role = .customer →
    (∀ p d, s.vd.drive = .pulsing p → d = s.pass (p.length * 8000 - p.timer) →
      (p.kind = .trim → ∀ e, p.start = some e → exec .pulseEnd s = .next { d with vd := ⟨some (match p.direction with
          | .opening => min 10000 (e + p.length * 10 / s.cfg.travelTime)
          | .closing => e - p.length * 10 / s.cfg.travelTime), .idle, s.vd.pending, p.direction.asEnd, 0⟩ }) ∧
      (p.kind = .toEnd → exec .pulseEnd s = .next
        { d with vd := ⟨some (match p.direction with | .opening => 10000 | .closing => 0), .idle, s.vd.pending,
          p.direction.asEnd, 0⟩ }) ∧
      (p.kind = .seek → s.vd.pending = none → exec .seekEnd s = .next
        { d with vd := ⟨some (match p.direction with | .opening => 10000 | .closing => 0), .idle, none,
          p.direction.asEnd, 0⟩ }) ∧
      (∀ target, p.kind = .seek → s.vd.pending = some target → exec .seekEnd s = .next
        { d with vd := ValveDrive.target s.cfg target ⟨some (match p.direction with | .opening => 10000 | .closing => 0),
          .idle, none, p.direction.asEnd, 0⟩ })) ∧
    (∀ w, s.vd.drive = .dwelling w → ∃ d, d = s.pass (s.cfg.dwell * 8000 - s.vd.dwellTimer) ∧
      exec .dwellEnd s = .next { d with vd := { d.vd with drive := match w with
        | none => .idle
        | some x => .pulsing ⟨x.direction, x.kind, s.vd.estimate, 0, x.length⟩ } })

/-- What a target does to the Valve Drive (R153, R155 to R159): while it seeks, the target is stored as pending and
nothing else moves; with a known estimate it is acted on by the demanded pulse of R155 against IDLE, a pulse in flight or
DWELL. A pulse in flight has moved for its whole ms (assumption log 13). -/
def Obligations.TargetsActedOn : Prop :=
  ∀ (cfg : ConfigSet) (v : ValveDrive) (target : Nat),
    (v.seeking = true ↔
      (∃ p, v.drive = .pulsing p ∧ p.kind = .seek) ∨ ∃ w, v.drive = .dwelling (some w) ∧ w.kind = .seek) ∧
    (v.seeking = true → v.target cfg target = { v with pending := some target }) ∧
    (v.drive = .idle ∨ (∃ w, v.drive = .dwelling w) → v.seeking = false → v.estimate = none →
      v.target cfg target = { v.beginSeek cfg with pending := some target }) ∧
    (∀ e gap length want,
      gap = (if e ≤ target then target - e else e - target) →
      length = (2 * (gap * cfg.travelTime) + 10) / 20 →
      want = (if target = 0 then some (⟨.closing, .toEnd, length + cfg.travelTime * 100⟩ : Demand)
        else if target = 10000 then some ⟨.opening, .toEnd, length + cfg.travelTime * 100⟩
        else if gap ≤ cfg.deadband ∨ length < cfg.minPulse then none
        else some ⟨if e < target then .opening else .closing, .trim, length⟩) →
      (v.drive = .idle → v.estimate = some e → want = none → v.target cfg target = v) ∧
      (∀ w, v.drive = .idle ∨ (∃ x, v.drive = .dwelling x) → v.seeking = false → v.estimate = some e → want = some w →
        v.target cfg target = { v with drive :=
          if v.lastEnd = w.direction.asEnd ∨ cfg.dwell * 8000 ≤ v.dwellTimer then
            (.pulsing ⟨w.direction, w.kind, some e, 0, w.length⟩) else .dwelling (some w) }) ∧
      (∀ x, v.drive = .dwelling x → v.seeking = false → v.estimate = some e → want = none →
        v.target cfg target = { v with drive := .dwelling none }) ∧
      (∀ p e0, v.drive = .pulsing p → p.kind ≠ .seek → p.start = some e0 →
        e = (match p.direction with
          | .opening => min 10000 (e0 + p.timer / 8000 * 10 / cfg.travelTime)
          | .closing => e0 - p.timer / 8000 * 10 / cfg.travelTime) →
        (want = none → v.target cfg target = ⟨some e, .idle, v.pending, p.direction.asEnd, 0⟩) ∧
        (∀ w, want = some w → w.direction = p.direction → v.target cfg target =
          { v with estimate := some e, drive := .pulsing { p with kind := w.kind, length := p.timer / 8000 + w.length } }) ∧
        (∀ w, want = some w → w.direction ≠ p.direction →
          v.target cfg target = ⟨some e, .dwelling (some w), v.pending, p.direction.asEnd, 0⟩)))
end

