-- ==== Sys2Proof/Laws/State.lean ====
section
/-! SUPPORT. What the named updates of the state leave and what they set: one lemma for each field and update, so that no
proof unfolds a record update. -/

namespace Sys2Proof.Machine

/-! ### Latches and counters -/

@[simp] theorem State.setLatch_inReset (s : State) (l : Latch) : (s.setLatch l).inReset = s.inReset := rfl
@[simp] theorem State.setLatch_sc (s : State) (l : Latch) : (s.setLatch l).sc = s.sc := rfl
@[simp] theorem State.setLatch_cfg (s : State) (l : Latch) : (s.setLatch l).cfg = s.cfg := rfl
@[simp] theorem State.setLatch_mu (s : State) (l : Latch) : (s.setLatch l).mu = s.mu := rfl
@[simp] theorem State.setLatch_fcu (s : State) (l : Latch) : (s.setLatch l).fcu = s.fcu := rfl
@[simp] theorem State.setLatch_lu (s : State) (l : Latch) : (s.setLatch l).lu = s.lu := rfl
@[simp] theorem State.setLatch_pt (s : State) (l : Latch) : (s.setLatch l).pt = s.pt := rfl
@[simp] theorem State.setLatch_cu (s : State) (l : Latch) : (s.setLatch l).cu = s.cu := rfl
@[simp] theorem State.setLatch_fe (s : State) (l : Latch) : (s.setLatch l).fe = s.fe := rfl
@[simp] theorem State.setLatch_pd (s : State) (l : Latch) : (s.setLatch l).pd = s.pd := rfl
@[simp] theorem State.setLatch_vd (s : State) (l : Latch) : (s.setLatch l).vd = s.vd := rfl
@[simp] theorem State.setLatch_ties (s : State) (l : Latch) : (s.setLatch l).ties = s.ties := rfl
@[simp] theorem State.setLatch_pending (s : State) (l : Latch) : (s.setLatch l).pending = s.pending := rfl
@[simp] theorem State.setLatch_sp_response (s : State) (l : Latch) : (s.setLatch l).sp.response = s.sp.response := rfl
@[simp] theorem State.setLatch_sp_counters (s : State) (l : Latch) : (s.setLatch l).sp.counters = s.sp.counters := rfl
@[simp] theorem State.setLatch_sp_select (s : State) (l : Latch) : (s.setLatch l).sp.select = s.sp.select := rfl
@[simp] theorem State.setLatch_sp_ssnHigh (s : State) (l : Latch) : (s.setLatch l).sp.ssnHigh = s.sp.ssnHigh := rfl

@[simp] theorem State.bump_inReset (s : State) (c : Counter) : (s.bump c).inReset = s.inReset := rfl
@[simp] theorem State.bump_sc (s : State) (c : Counter) : (s.bump c).sc = s.sc := rfl
@[simp] theorem State.bump_cfg (s : State) (c : Counter) : (s.bump c).cfg = s.cfg := rfl
@[simp] theorem State.bump_mu (s : State) (c : Counter) : (s.bump c).mu = s.mu := rfl
@[simp] theorem State.bump_fcu (s : State) (c : Counter) : (s.bump c).fcu = s.fcu := rfl
@[simp] theorem State.bump_lu (s : State) (c : Counter) : (s.bump c).lu = s.lu := rfl
@[simp] theorem State.bump_pt (s : State) (c : Counter) : (s.bump c).pt = s.pt := rfl
@[simp] theorem State.bump_cu (s : State) (c : Counter) : (s.bump c).cu = s.cu := rfl
@[simp] theorem State.bump_fe (s : State) (c : Counter) : (s.bump c).fe = s.fe := rfl
@[simp] theorem State.bump_pd (s : State) (c : Counter) : (s.bump c).pd = s.pd := rfl
@[simp] theorem State.bump_vd (s : State) (c : Counter) : (s.bump c).vd = s.vd := rfl
@[simp] theorem State.bump_ties (s : State) (c : Counter) : (s.bump c).ties = s.ties := rfl
@[simp] theorem State.bump_pending (s : State) (c : Counter) : (s.bump c).pending = s.pending := rfl
@[simp] theorem State.bump_sp_response (s : State) (c : Counter) : (s.bump c).sp.response = s.sp.response := rfl
@[simp] theorem State.bump_sp_latches (s : State) (c : Counter) : (s.bump c).sp.latches = s.sp.latches := rfl
@[simp] theorem State.bump_sp_select (s : State) (c : Counter) : (s.bump c).sp.select = s.sp.select := rfl
@[simp] theorem State.bump_sp_ssnHigh (s : State) (c : Counter) : (s.bump c).sp.ssnHigh = s.sp.ssnHigh := rfl
@[simp] theorem State.bump_sp_counters (s : State) (c : Counter) : (s.bump c).sp.counters = s.sp.counters.bump c := rfl

@[simp] theorem State.setLatchIf_inReset (s : State) (b : Bool) (l : Latch) : (s.setLatchIf b l).inReset = s.inReset := by cases b <;> rfl
@[simp] theorem State.setLatchIf_sc (s : State) (b : Bool) (l : Latch) : (s.setLatchIf b l).sc = s.sc := by cases b <;> rfl
@[simp] theorem State.setLatchIf_cfg (s : State) (b : Bool) (l : Latch) : (s.setLatchIf b l).cfg = s.cfg := by cases b <;> rfl
@[simp] theorem State.setLatchIf_mu (s : State) (b : Bool) (l : Latch) : (s.setLatchIf b l).mu = s.mu := by cases b <;> rfl
@[simp] theorem State.setLatchIf_fcu (s : State) (b : Bool) (l : Latch) : (s.setLatchIf b l).fcu = s.fcu := by cases b <;> rfl
@[simp] theorem State.setLatchIf_lu (s : State) (b : Bool) (l : Latch) : (s.setLatchIf b l).lu = s.lu := by cases b <;> rfl
@[simp] theorem State.setLatchIf_pt (s : State) (b : Bool) (l : Latch) : (s.setLatchIf b l).pt = s.pt := by cases b <;> rfl
@[simp] theorem State.setLatchIf_cu (s : State) (b : Bool) (l : Latch) : (s.setLatchIf b l).cu = s.cu := by cases b <;> rfl
@[simp] theorem State.setLatchIf_fe (s : State) (b : Bool) (l : Latch) : (s.setLatchIf b l).fe = s.fe := by cases b <;> rfl
@[simp] theorem State.setLatchIf_pd (s : State) (b : Bool) (l : Latch) : (s.setLatchIf b l).pd = s.pd := by cases b <;> rfl
@[simp] theorem State.setLatchIf_vd (s : State) (b : Bool) (l : Latch) : (s.setLatchIf b l).vd = s.vd := by cases b <;> rfl
@[simp] theorem State.setLatchIf_ties (s : State) (b : Bool) (l : Latch) : (s.setLatchIf b l).ties = s.ties := by cases b <;> rfl
@[simp] theorem State.setLatchIf_pending (s : State) (b : Bool) (l : Latch) : (s.setLatchIf b l).pending = s.pending := by cases b <;> rfl
@[simp] theorem State.setLatchIf_sp_response (s : State) (b : Bool) (l : Latch) : (s.setLatchIf b l).sp.response = s.sp.response := by cases b <;> rfl
@[simp] theorem State.setLatchIf_sp_counters (s : State) (b : Bool) (l : Latch) : (s.setLatchIf b l).sp.counters = s.sp.counters := by cases b <;> rfl
@[simp] theorem State.setLatchIf_sp_select (s : State) (b : Bool) (l : Latch) : (s.setLatchIf b l).sp.select = s.sp.select := by cases b <;> rfl
@[simp] theorem State.setLatchIf_sp_ssnHigh (s : State) (b : Bool) (l : Latch) : (s.setLatchIf b l).sp.ssnHigh = s.sp.ssnHigh := by cases b <;> rfl

@[simp] theorem State.bumpIf_inReset (s : State) (b : Bool) (c : Counter) : (s.bumpIf b c).inReset = s.inReset := by cases b <;> rfl
@[simp] theorem State.bumpIf_sc (s : State) (b : Bool) (c : Counter) : (s.bumpIf b c).sc = s.sc := by cases b <;> rfl
@[simp] theorem State.bumpIf_cfg (s : State) (b : Bool) (c : Counter) : (s.bumpIf b c).cfg = s.cfg := by cases b <;> rfl
@[simp] theorem State.bumpIf_mu (s : State) (b : Bool) (c : Counter) : (s.bumpIf b c).mu = s.mu := by cases b <;> rfl
@[simp] theorem State.bumpIf_fcu (s : State) (b : Bool) (c : Counter) : (s.bumpIf b c).fcu = s.fcu := by cases b <;> rfl
@[simp] theorem State.bumpIf_lu (s : State) (b : Bool) (c : Counter) : (s.bumpIf b c).lu = s.lu := by cases b <;> rfl
@[simp] theorem State.bumpIf_pt (s : State) (b : Bool) (c : Counter) : (s.bumpIf b c).pt = s.pt := by cases b <;> rfl
@[simp] theorem State.bumpIf_cu (s : State) (b : Bool) (c : Counter) : (s.bumpIf b c).cu = s.cu := by cases b <;> rfl
@[simp] theorem State.bumpIf_fe (s : State) (b : Bool) (c : Counter) : (s.bumpIf b c).fe = s.fe := by cases b <;> rfl
@[simp] theorem State.bumpIf_pd (s : State) (b : Bool) (c : Counter) : (s.bumpIf b c).pd = s.pd := by cases b <;> rfl
@[simp] theorem State.bumpIf_vd (s : State) (b : Bool) (c : Counter) : (s.bumpIf b c).vd = s.vd := by cases b <;> rfl
@[simp] theorem State.bumpIf_ties (s : State) (b : Bool) (c : Counter) : (s.bumpIf b c).ties = s.ties := by cases b <;> rfl
@[simp] theorem State.bumpIf_pending (s : State) (b : Bool) (c : Counter) : (s.bumpIf b c).pending = s.pending := by cases b <;> rfl
@[simp] theorem State.bumpIf_sp_response (s : State) (b : Bool) (c : Counter) : (s.bumpIf b c).sp.response = s.sp.response := by cases b <;> rfl
@[simp] theorem State.bumpIf_sp_latches (s : State) (b : Bool) (c : Counter) : (s.bumpIf b c).sp.latches = s.sp.latches := by cases b <;> rfl
@[simp] theorem State.bumpIf_sp_select (s : State) (b : Bool) (c : Counter) : (s.bumpIf b c).sp.select = s.sp.select := by cases b <;> rfl
@[simp] theorem State.bumpIf_sp_ssnHigh (s : State) (b : Bool) (c : Counter) : (s.bumpIf b c).sp.ssnHigh = s.sp.ssnHigh := by cases b <;> rfl

/-! ### The table -/

@[simp] theorem State.withEntries_inReset (s : State) (es : List Entry) : (s.withEntries es).inReset = s.inReset := rfl
@[simp] theorem State.withEntries_sc (s : State) (es : List Entry) : (s.withEntries es).sc = s.sc := rfl
@[simp] theorem State.withEntries_cfg (s : State) (es : List Entry) : (s.withEntries es).cfg = s.cfg := rfl
@[simp] theorem State.withEntries_mu (s : State) (es : List Entry) : (s.withEntries es).mu = s.mu := rfl
@[simp] theorem State.withEntries_fcu (s : State) (es : List Entry) : (s.withEntries es).fcu = s.fcu := rfl
@[simp] theorem State.withEntries_lu (s : State) (es : List Entry) : (s.withEntries es).lu = s.lu := rfl
@[simp] theorem State.withEntries_cu (s : State) (es : List Entry) : (s.withEntries es).cu = s.cu := rfl
@[simp] theorem State.withEntries_fe (s : State) (es : List Entry) : (s.withEntries es).fe = s.fe := rfl
@[simp] theorem State.withEntries_pd (s : State) (es : List Entry) : (s.withEntries es).pd = s.pd := rfl
@[simp] theorem State.withEntries_vd (s : State) (es : List Entry) : (s.withEntries es).vd = s.vd := rfl
@[simp] theorem State.withEntries_sp (s : State) (es : List Entry) : (s.withEntries es).sp = s.sp := rfl
@[simp] theorem State.withEntries_ties (s : State) (es : List Entry) : (s.withEntries es).ties = s.ties := rfl
@[simp] theorem State.withEntries_pending (s : State) (es : List Entry) : (s.withEntries es).pending = s.pending := rfl
@[simp] theorem State.withEntries_pt_entries (s : State) (es : List Entry) : (s.withEntries es).pt.entries = es := rfl
@[simp] theorem State.withEntries_pt_queue (s : State) (es : List Entry) : (s.withEntries es).pt.queue = s.pt.queue := rfl

/-! ### The port -/

@[simp] theorem State.deselect_inReset (s : State) : (s.deselect).inReset = s.inReset := rfl
@[simp] theorem State.deselect_sc (s : State) : (s.deselect).sc = s.sc := rfl
@[simp] theorem State.deselect_cfg (s : State) : (s.deselect).cfg = s.cfg := rfl
@[simp] theorem State.deselect_mu (s : State) : (s.deselect).mu = s.mu := rfl
@[simp] theorem State.deselect_fcu (s : State) : (s.deselect).fcu = s.fcu := rfl
@[simp] theorem State.deselect_lu (s : State) : (s.deselect).lu = s.lu := rfl
@[simp] theorem State.deselect_pt (s : State) : (s.deselect).pt = s.pt := rfl
@[simp] theorem State.deselect_cu (s : State) : (s.deselect).cu = s.cu := rfl
@[simp] theorem State.deselect_fe (s : State) : (s.deselect).fe = s.fe := rfl
@[simp] theorem State.deselect_pd (s : State) : (s.deselect).pd = s.pd := rfl
@[simp] theorem State.deselect_vd (s : State) : (s.deselect).vd = s.vd := rfl
@[simp] theorem State.deselect_ties (s : State) : (s.deselect).ties = s.ties := rfl
@[simp] theorem State.deselect_pending (s : State) : (s.deselect).pending = s.pending := rfl
@[simp] theorem State.deselect_sp_response (s : State) : (s.deselect).sp.response = s.sp.response := rfl
@[simp] theorem State.deselect_sp_latches (s : State) : (s.deselect).sp.latches = s.sp.latches := rfl
@[simp] theorem State.deselect_sp_counters (s : State) : (s.deselect).sp.counters = s.sp.counters := rfl
@[simp] theorem State.deselect_sp_select (s : State) : (s.deselect).sp.select = none := rfl
@[simp] theorem State.deselect_sp_ssnHigh (s : State) : (s.deselect).sp.ssnHigh = true := rfl

@[simp] theorem State.answer_inReset (s : State) (r : Response) : (s.answer r).inReset = s.inReset := rfl
@[simp] theorem State.answer_sc (s : State) (r : Response) : (s.answer r).sc = s.sc := rfl
@[simp] theorem State.answer_cfg (s : State) (r : Response) : (s.answer r).cfg = s.cfg := rfl
@[simp] theorem State.answer_mu (s : State) (r : Response) : (s.answer r).mu = s.mu := rfl
@[simp] theorem State.answer_fcu (s : State) (r : Response) : (s.answer r).fcu = s.fcu := rfl
@[simp] theorem State.answer_lu (s : State) (r : Response) : (s.answer r).lu = s.lu := rfl
@[simp] theorem State.answer_pt (s : State) (r : Response) : (s.answer r).pt = s.pt := rfl
@[simp] theorem State.answer_cu (s : State) (r : Response) : (s.answer r).cu = s.cu := rfl
@[simp] theorem State.answer_fe (s : State) (r : Response) : (s.answer r).fe = s.fe := rfl
@[simp] theorem State.answer_pd (s : State) (r : Response) : (s.answer r).pd = s.pd := rfl
@[simp] theorem State.answer_vd (s : State) (r : Response) : (s.answer r).vd = s.vd := rfl
@[simp] theorem State.answer_ties (s : State) (r : Response) : (s.answer r).ties = s.ties := rfl
@[simp] theorem State.answer_pending (s : State) (r : Response) : (s.answer r).pending = s.pending := rfl
@[simp] theorem State.answer_sp_response (s : State) (r : Response) : (s.answer r).sp.response = r := rfl
@[simp] theorem State.answer_sp_latches (s : State) (r : Response) : (s.answer r).sp.latches = s.sp.latches := rfl
@[simp] theorem State.answer_sp_counters (s : State) (r : Response) : (s.answer r).sp.counters = s.sp.counters := rfl
@[simp] theorem State.answer_sp_select (s : State) (r : Response) : (s.answer r).sp.select = s.sp.select := rfl
@[simp] theorem State.answer_sp_ssnHigh (s : State) (r : Response) : (s.answer r).sp.ssnHigh = s.sp.ssnHigh := rfl

/-! ### The passing of time -/

@[simp] theorem State.pass_inReset (s : State) (d : Nat) : (s.pass d).inReset = s.inReset := rfl
@[simp] theorem State.pass_sc (s : State) (d : Nat) : (s.pass d).sc = s.sc := rfl
@[simp] theorem State.pass_cfg (s : State) (d : Nat) : (s.pass d).cfg = s.cfg := rfl
@[simp] theorem State.pass_pt (s : State) (d : Nat) : (s.pass d).pt = s.pt := rfl
@[simp] theorem State.pass_fe (s : State) (d : Nat) : (s.pass d).fe = s.fe := rfl
@[simp] theorem State.pass_sp (s : State) (d : Nat) : (s.pass d).sp = s.sp := rfl
@[simp] theorem State.pass_ties (s : State) (d : Nat) : (s.pass d).ties = s.ties := rfl
@[simp] theorem State.pass_pending (s : State) (d : Nat) : (s.pass d).pending = s.pending := rfl
@[simp] theorem State.pass_mu_channels (s : State) (d : Nat) : (s.pass d).mu.channels = s.mu.channels := rfl
@[simp] theorem State.pass_mu_rotation (s : State) (d : Nat) : (s.pass d).mu.rotation = s.mu.rotation := rfl
@[simp] theorem State.pass_mu_timer (s : State) (d : Nat) : (s.pass d).mu.timer = s.mu.timer + d := rfl
@[simp] theorem State.pass_fcu (s : State) (d : Nat) : (s.pass d).fcu = s.fcu.pass d := rfl
@[simp] theorem State.pass_lu_receiver (s : State) (d : Nat) : (s.pass d).lu.receiver = s.lu.receiver := rfl
@[simp] theorem State.pass_lu_reportSlot (s : State) (d : Nat) : (s.pass d).lu.reportSlot = s.lu.reportSlot := rfl
@[simp] theorem State.pass_lu_noticeSlot (s : State) (d : Nat) : (s.pass d).lu.noticeSlot = s.lu.noticeSlot := rfl
@[simp] theorem State.pass_lu_sequence (s : State) (d : Nat) : (s.pass d).lu.sequence = s.lu.sequence := rfl
@[simp] theorem State.pass_lu_beganSending (s : State) (d : Nat) : (s.pass d).lu.beganSending =
    (s.lu.beganSending && (s.lu.transmitter.isSending || s.lu.quiet + d < idleClocks)) := rfl
@[simp] theorem State.pass_lu_quiet (s : State) (d : Nat) : (s.pass d).lu.quiet = s.lu.quiet + d := rfl
@[simp] theorem State.pass_lu_transmitter (s : State) (d : Nat) : (s.pass d).lu.transmitter = s.lu.transmitter.pass d := rfl
@[simp] theorem State.pass_cu_state (s : State) (d : Nat) : (s.pass d).cu.state = s.cu.state := rfl
@[simp] theorem State.pass_cu_timer (s : State) (d : Nat) : (s.pass d).cu.timer = s.cu.timer.map (· + d) := rfl

theorem State.pass_pd_of_plant {s : State} (h : s.sc.role = .plant) (d : Nat) : (s.pass d).pd = s.pd.pass d := by
  simp [State.pass, h]

theorem State.pass_pd_of_customer {s : State} (h : s.sc.role = .customer) (d : Nat) : (s.pass d).pd = s.pd := by
  simp [State.pass, h]

theorem State.pass_vd_of_plant {s : State} (h : s.sc.role = .plant) (d : Nat) : (s.pass d).vd = s.vd := by
  simp [State.pass, h]

theorem State.pass_vd_of_customer {s : State} (h : s.sc.role = .customer) (d : Nat) :
    (s.pass d).vd = s.vd.pass d := by
  simp [State.pass, h]

@[simp] theorem PlantDrive.pass_command (p : PlantDrive) (d : Nat) : (p.pass d).command = p.command := by
  unfold PlantDrive.pass; split <;> rfl

@[simp] theorem State.pass_pd_command (s : State) (d : Nat) : (s.pass d).pd.command = s.pd.command := by
  cases h : s.sc.role
  · rw [State.pass_pd_of_plant h]; simp
  · rw [State.pass_pd_of_customer h]

@[simp] theorem FlowCaptureUnit.pass_accepted (f : FlowCaptureUnit) (d : Nat) : (f.pass d).accepted = f.accepted := rfl
@[simp] theorem FlowCaptureUnit.pass_previous (f : FlowCaptureUnit) (d : Nat) : (f.pass d).previous = f.previous := rfl
@[simp] theorem FlowCaptureUnit.pass_lastCapture (f : FlowCaptureUnit) (d : Nat) :
    (f.pass d).lastCapture = f.lastCapture := rfl
@[simp] theorem FlowCaptureUnit.pass_seenEdge (f : FlowCaptureUnit) (d : Nat) : (f.pass d).seenEdge = f.seenEdge := rfl
@[simp] theorem FlowCaptureUnit.pass_lastPeriod (f : FlowCaptureUnit) (d : Nat) :
    (f.pass d).lastPeriod = f.lastPeriod := rfl
@[simp] theorem FlowCaptureUnit.pass_lastFlow (f : FlowCaptureUnit) (d : Nat) : (f.pass d).lastFlow = f.lastFlow := rfl

@[simp] theorem ValveDrive.pass_estimate (v : ValveDrive) (d : Nat) : (v.pass d).estimate = v.estimate := rfl
@[simp] theorem ValveDrive.pass_pending (v : ValveDrive) (d : Nat) : (v.pass d).pending = v.pending := rfl
@[simp] theorem ValveDrive.pass_lastEnd (v : ValveDrive) (d : Nat) : (v.pass d).lastEnd = v.lastEnd := rfl
@[simp] theorem ValveDrive.pass_dwellTimer (v : ValveDrive) (d : Nat) : (v.pass d).dwellTimer = v.dwellTimer + d := rfl
@[simp] theorem ValveDrive.pass_drive (v : ValveDrive) (d : Nat) : (v.pass d).drive = v.drive.pass d := rfl

@[simp] theorem Transmitter.pass_serving (x : Transmitter) (d : Nat) (slot : Slot) :
    (x.pass d).serving slot = x.serving slot := by cases x <;> rfl
@[simp] theorem Transmitter.pass_isSending (x : Transmitter) (d : Nat) : (x.pass d).isSending = x.isSending := by
  cases x <;> rfl

/-! ### Latches and counts, read back -/

/-- Setting a latch sets it and no other. -/
@[simp] theorem State.latched_setLatch (s : State) (l m : Latch) :
    (s.setLatch l).latched m = (s.latched m || m == l) := by
  cases l <;> cases m <;> simp [State.latched, State.setLatch, Latch.bit]

@[simp] theorem State.latched_setLatchIf (s : State) (b : Bool) (l m : Latch) :
    (s.setLatchIf b l).latched m = (s.latched m || (b && m == l)) := by
  cases b <;> simp [State.setLatchIf]

@[simp] theorem State.latched_bump (s : State) (c : Counter) (m : Latch) : (s.bump c).latched m = s.latched m := rfl

@[simp] theorem State.latched_bumpIf (s : State) (b : Bool) (c : Counter) (m : Latch) :
    (s.bumpIf b c).latched m = s.latched m := by cases b <;> rfl

@[simp] theorem State.count_setLatch (s : State) (l : Latch) (k : Counter) : (s.setLatch l).count k = s.count k := rfl

@[simp] theorem State.count_setLatchIf (s : State) (b : Bool) (l : Latch) (k : Counter) :
    (s.setLatchIf b l).count k = s.count k := by cases b <;> rfl

theorem Counters.get_bump (k : Counters) (c d : Counter) :
    (k.bump c).get d = if d = c then satCount (k.get d) else k.get d := by
  cases c <;> cases d <;> simp [Counters.bump, Counters.get]

/-- A counted event raises its own counter and no other (R176). -/
@[simp] theorem State.count_bump (s : State) (c k : Counter) :
    (s.bump c).count k = if k = c then satCount (s.count k) else s.count k := Counters.get_bump _ _ _

@[simp] theorem State.count_bumpIf (s : State) (b : Bool) (c k : Counter) :
    (s.bumpIf b c).count k = if b = true ∧ k = c then satCount (s.count k) else s.count k := by
  cases b <;> simp [State.bumpIf]

@[simp] theorem State.withEntries_latched (s : State) (es : List Entry) (x : Latch) :
    (s.withEntries es).latched x = s.latched x := rfl
@[simp] theorem State.withEntries_count (s : State) (es : List Entry) (k : Counter) :
    (s.withEntries es).count k = s.count k := rfl

/-- Latches and counts are read off the port alone. -/
theorem State.latched_congr {s t : State} (h : s.sp.latches = t.sp.latches) (l : Latch) : s.latched l = t.latched l := by
  simp [State.latched, h]

theorem State.count_congr {s t : State} (h : s.sp.counters = t.sp.counters) (k : Counter) : s.count k = t.count k := by
  simp [State.count, h]

/-! ### Four channels -/

@[simp] theorem Four.get_set_self {α : Type} (f : Four α) (n : Fin 4) (x : α) : (f.set n x).get n = x := by
  match n with
  | 0 | 1 | 2 | 3 => rfl

theorem Four.get_set_of_ne {α : Type} (f : Four α) {n m : Fin 4} (h : m ≠ n) (x : α) : (f.set n x).get m = f.get m := by
  revert h
  match n, m with
  | 0, 0 | 1, 1 | 2, 2 | 3, 3 => intro h; exact absurd rfl h
  | 0, 1 | 0, 2 | 0, 3 | 1, 0 | 1, 2 | 1, 3 | 2, 0 | 2, 1 | 2, 3 | 3, 0 | 3, 1 | 3, 2 => intro _; rfl

@[simp] theorem Four.get_map {α β : Type} (g : α → β) (f : Four α) (n : Fin 4) : (f.map g).get n = g (f.get n) := by
  match n with
  | 0 | 1 | 2 | 3 => rfl

end Sys2Proof.Machine
end

