-- ==== Sys2Proof/Laws/Link.lean ====
section
/-! SUPPORT. The Link Unit: what serving, withdrawing, placing, the access gap, collisions and dominance leave and what
they do, once. -/

namespace Sys2Proof.Machine

/-! ### Serving the slots (R54 to R56) -/

/-- Serving changes the transmitter alone, to the wait that the slots call for. -/
theorem LinkUnit.serve_eq (address : Nat) (l : LinkUnit) :
    l.serve address = { l with transmitter := servedBy address l.noticeSlot l.reportSlot } := by
  cases l with
  | mk r x p n q w b => cases n <;> cases p <;> rfl

@[simp] theorem LinkUnit.serve_receiver (a : Nat) (l : LinkUnit) : (l.serve a).receiver = l.receiver := by rw [LinkUnit.serve_eq]
@[simp] theorem LinkUnit.serve_reportSlot (a : Nat) (l : LinkUnit) : (l.serve a).reportSlot = l.reportSlot := by rw [LinkUnit.serve_eq]
@[simp] theorem LinkUnit.serve_noticeSlot (a : Nat) (l : LinkUnit) : (l.serve a).noticeSlot = l.noticeSlot := by rw [LinkUnit.serve_eq]
@[simp] theorem LinkUnit.serve_sequence (a : Nat) (l : LinkUnit) : (l.serve a).sequence = l.sequence := by rw [LinkUnit.serve_eq]
@[simp] theorem LinkUnit.serve_quiet (a : Nat) (l : LinkUnit) : (l.serve a).quiet = l.quiet := by rw [LinkUnit.serve_eq]
@[simp] theorem LinkUnit.serve_beganSending (a : Nat) (l : LinkUnit) : (l.serve a).beganSending = l.beganSending := by rw [LinkUnit.serve_eq]
@[simp] theorem LinkUnit.serve_transmitter (a : Nat) (l : LinkUnit) :
    (l.serve a).transmitter = servedBy a l.noticeSlot l.reportSlot := by rw [LinkUnit.serve_eq]

/-- A transmitter that serves empty report slots does not serve the report slot, and likewise for the notice slot. -/
@[simp] theorem servedBy_report_none (a : Nat) (o : Option Outgoing) : (servedBy a o none).serving .report = false := by
  cases o <;> rfl

@[simp] theorem servedBy_notice_none (a : Nat) (o : Option Outgoing) : (servedBy a none o).serving .notice = false := by
  cases o <;> rfl

/-! ### The slots -/

@[simp] theorem LinkUnit.slot_setSlot (l : LinkUnit) (x : Slot) (o : Option Outgoing) : (l.setSlot x o).slot x = o := by
  cases x <;> rfl

@[simp] theorem LinkUnit.setSlot_receiver (l : LinkUnit) (x : Slot) (o : Option Outgoing) : (l.setSlot x o).receiver = l.receiver := by
  cases x <;> rfl
@[simp] theorem LinkUnit.setSlot_transmitter (l : LinkUnit) (x : Slot) (o : Option Outgoing) : (l.setSlot x o).transmitter = l.transmitter := by
  cases x <;> rfl
@[simp] theorem LinkUnit.setSlot_sequence (l : LinkUnit) (x : Slot) (o : Option Outgoing) : (l.setSlot x o).sequence = l.sequence := by
  cases x <;> rfl
@[simp] theorem LinkUnit.setSlot_quiet (l : LinkUnit) (x : Slot) (o : Option Outgoing) : (l.setSlot x o).quiet = l.quiet := by
  cases x <;> rfl
@[simp] theorem LinkUnit.setSlot_beganSending (l : LinkUnit) (x : Slot) (o : Option Outgoing) : (l.setSlot x o).beganSending = l.beganSending := by
  cases x <;> rfl

/-! ### Withdrawing (R14) -/

/-- What a withdrawn slot does to the Link Unit. -/
theorem State.withdraw_lu (x : Slot) (s : State) : (s.withdraw x).lu =
    if s.lu.transmitter.serving x then (s.lu.setSlot x none).serve s.sc.address else s.lu.setSlot x none := by
  simp [State.withdraw]

@[simp] theorem State.withdraw_inReset (s : State) (x : Slot) : (s.withdraw x).inReset = s.inReset := by simp [State.withdraw]
@[simp] theorem State.withdraw_sc (s : State) (x : Slot) : (s.withdraw x).sc = s.sc := by simp [State.withdraw]
@[simp] theorem State.withdraw_cfg (s : State) (x : Slot) : (s.withdraw x).cfg = s.cfg := by simp [State.withdraw]
@[simp] theorem State.withdraw_mu (s : State) (x : Slot) : (s.withdraw x).mu = s.mu := by simp [State.withdraw]
@[simp] theorem State.withdraw_fcu (s : State) (x : Slot) : (s.withdraw x).fcu = s.fcu := by simp [State.withdraw]
@[simp] theorem State.withdraw_pt (s : State) (x : Slot) : (s.withdraw x).pt = s.pt := by simp [State.withdraw]
@[simp] theorem State.withdraw_cu (s : State) (x : Slot) : (s.withdraw x).cu = s.cu := by simp [State.withdraw]
@[simp] theorem State.withdraw_fe (s : State) (x : Slot) : (s.withdraw x).fe = s.fe := by simp [State.withdraw]
@[simp] theorem State.withdraw_pd (s : State) (x : Slot) : (s.withdraw x).pd = s.pd := by simp [State.withdraw]
@[simp] theorem State.withdraw_vd (s : State) (x : Slot) : (s.withdraw x).vd = s.vd := by simp [State.withdraw]
@[simp] theorem State.withdraw_ties (s : State) (x : Slot) : (s.withdraw x).ties = s.ties := by simp [State.withdraw]
@[simp] theorem State.withdraw_pending (s : State) (x : Slot) : (s.withdraw x).pending = s.pending := by simp [State.withdraw]
@[simp] theorem State.withdraw_sp_response (s : State) (x : Slot) : (s.withdraw x).sp.response = s.sp.response := by simp [State.withdraw]
@[simp] theorem State.withdraw_sp_latches (s : State) (x : Slot) : (s.withdraw x).sp.latches = s.sp.latches := by simp [State.withdraw]
@[simp] theorem State.withdraw_sp_select (s : State) (x : Slot) : (s.withdraw x).sp.select = s.sp.select := by simp [State.withdraw]
@[simp] theorem State.withdraw_sp_ssnHigh (s : State) (x : Slot) : (s.withdraw x).sp.ssnHigh = s.sp.ssnHigh := by simp [State.withdraw]

/-- Each withdrawn report counts SUPERSEDED; a notice counts nothing (assumption log 26). -/
theorem State.withdraw_count (x : Slot) (s : State) (k : Counter) : (s.withdraw x).count k =
    if k = .superseded ∧ x = .report then
      counted (oneIf s.lu.reportSlot.isSome + oneIf (s.lu.transmitter.inFlightFrom .report)) (s.count k)
    else s.count k := by
  have h0 : ∀ l : LinkUnit, ({ s with lu := l } : State).count k = s.count k := fun _ => rfl
  cases x <;>
    simp only [State.withdraw, State.count_bumpIf, h0, LinkUnit.slot] <;>
    cases s.lu.reportSlot.isSome <;> cases s.lu.transmitter.inFlightFrom .report <;>
    by_cases hk : k = .superseded <;> simp [hk, counted, oneIf, satCount] <;> omega

/-- After a withdrawal the slot is empty and the transmitter does not serve it. -/
theorem State.withdraw_serving (x : Slot) (s : State) : (s.withdraw x).lu.slot x = none ∧
    (s.withdraw x).lu.transmitter.serving x = false := by
  rw [State.withdraw_lu]
  cases x <;> split <;> simp_all [LinkUnit.slot, LinkUnit.setSlot]

/-! ### Placing (R62, R63) -/

@[simp] theorem State.placeReport_inReset (s : State) (r : Report) : (s.placeReport r).inReset = s.inReset := by simp [State.placeReport]
@[simp] theorem State.placeReport_sc (s : State) (r : Report) : (s.placeReport r).sc = s.sc := by simp [State.placeReport]
@[simp] theorem State.placeReport_cfg (s : State) (r : Report) : (s.placeReport r).cfg = s.cfg := by simp [State.placeReport]
@[simp] theorem State.placeReport_mu (s : State) (r : Report) : (s.placeReport r).mu = s.mu := by simp [State.placeReport]
@[simp] theorem State.placeReport_fcu (s : State) (r : Report) : (s.placeReport r).fcu = s.fcu := by simp [State.placeReport]
@[simp] theorem State.placeReport_pt (s : State) (r : Report) : (s.placeReport r).pt = s.pt := by simp [State.placeReport]
@[simp] theorem State.placeReport_cu (s : State) (r : Report) : (s.placeReport r).cu = s.cu := by simp [State.placeReport]
@[simp] theorem State.placeReport_fe (s : State) (r : Report) : (s.placeReport r).fe = s.fe := by simp [State.placeReport]
@[simp] theorem State.placeReport_pd (s : State) (r : Report) : (s.placeReport r).pd = s.pd := by simp [State.placeReport]
@[simp] theorem State.placeReport_vd (s : State) (r : Report) : (s.placeReport r).vd = s.vd := by simp [State.placeReport]
@[simp] theorem State.placeReport_ties (s : State) (r : Report) : (s.placeReport r).ties = s.ties := by simp [State.placeReport]
@[simp] theorem State.placeReport_pending (s : State) (r : Report) : (s.placeReport r).pending = s.pending := by simp [State.placeReport]
@[simp] theorem State.placeReport_sp_response (s : State) (r : Report) : (s.placeReport r).sp.response = s.sp.response := by simp [State.placeReport]
@[simp] theorem State.placeReport_sp_latches (s : State) (r : Report) : (s.placeReport r).sp.latches = s.sp.latches := by simp [State.placeReport]
@[simp] theorem State.placeReport_sp_select (s : State) (r : Report) : (s.placeReport r).sp.select = s.sp.select := by simp [State.placeReport]
@[simp] theorem State.placeReport_sp_ssnHigh (s : State) (r : Report) : (s.placeReport r).sp.ssnHigh = s.sp.ssnHigh := by simp [State.placeReport]
@[simp] theorem State.placeReport_lu_receiver (s : State) (r : Report) : (s.placeReport r).lu.receiver = s.lu.receiver := by
  simp only [State.placeReport, State.bumpIf_lu]; split <;> simp [LinkUnit.waitFor]
@[simp] theorem State.placeReport_lu_noticeSlot (s : State) (r : Report) : (s.placeReport r).lu.noticeSlot = s.lu.noticeSlot := by
  simp only [State.placeReport, State.bumpIf_lu]; split <;> simp [LinkUnit.waitFor]
@[simp] theorem State.placeReport_lu_sequence (s : State) (r : Report) : (s.placeReport r).lu.sequence = s.lu.sequence := by
  simp only [State.placeReport, State.bumpIf_lu]; split <;> simp [LinkUnit.waitFor]
@[simp] theorem State.placeReport_lu_quiet (s : State) (r : Report) : (s.placeReport r).lu.quiet = s.lu.quiet := by
  simp only [State.placeReport, State.bumpIf_lu]; split <;> simp [LinkUnit.waitFor]
@[simp] theorem State.placeReport_lu_beganSending (s : State) (r : Report) : (s.placeReport r).lu.beganSending = s.lu.beganSending := by
  simp only [State.placeReport, State.bumpIf_lu]; split <;> simp [LinkUnit.waitFor]
@[simp] theorem State.placeReport_lu_reportSlot (s : State) (r : Report) :
    (s.placeReport r).lu.reportSlot = some ⟨.report r, 0⟩ := by
  simp only [State.placeReport, State.bumpIf_lu]; split <;> simp [LinkUnit.waitFor]

/-- A placed report that replaces one counts SUPERSEDED (R62). -/
theorem State.placeReport_count (r : Report) (s : State) (k : Counter) : (s.placeReport r).count k =
    if k = .superseded then counted (oneIf s.lu.reportSlot.isSome) (s.count k) else s.count k := by
  have h0 : ∀ l : LinkUnit, ({ s with lu := l } : State).count k = s.count k := fun _ => rfl
  simp only [State.placeReport, State.count_bumpIf, h0]
  cases s.lu.reportSlot.isSome <;> by_cases hk : k = .superseded <;> simp [hk, counted, oneIf, satCount]

/-- What the transmitter does when a report is placed (R54, R62). -/
theorem State.placeReport_transmitter (r : Report) (s : State) : (s.placeReport r).lu.transmitter =
    match s.lu.transmitter with
    | .idle => servedBy s.sc.address s.lu.noticeSlot (some ⟨.report r, 0⟩)
    | .waiting .report _ _ => .waiting .report (gapK s.sc.address ⟨.report r, 0⟩) 0
    | .waiting .notice k gap => .waiting .notice k gap
    | .sending o t => .sending o t := by
  simp only [State.placeReport, State.bumpIf_lu]
  cases h : s.lu.transmitter with
  | idle => simp
  | waiting x k gap => cases x <;> simp_all [LinkUnit.waitFor]
  | sending o t => simp_all

@[simp] theorem State.placeNotice_inReset (s : State) : (s.placeNotice).inReset = s.inReset := by simp [State.placeNotice]
@[simp] theorem State.placeNotice_sc (s : State) : (s.placeNotice).sc = s.sc := by simp [State.placeNotice]
@[simp] theorem State.placeNotice_cfg (s : State) : (s.placeNotice).cfg = s.cfg := by simp [State.placeNotice]
@[simp] theorem State.placeNotice_mu (s : State) : (s.placeNotice).mu = s.mu := by simp [State.placeNotice]
@[simp] theorem State.placeNotice_fcu (s : State) : (s.placeNotice).fcu = s.fcu := by simp [State.placeNotice]
@[simp] theorem State.placeNotice_pt (s : State) : (s.placeNotice).pt = s.pt := by simp [State.placeNotice]
@[simp] theorem State.placeNotice_cu (s : State) : (s.placeNotice).cu = s.cu := by simp [State.placeNotice]
@[simp] theorem State.placeNotice_fe (s : State) : (s.placeNotice).fe = s.fe := by simp [State.placeNotice]
@[simp] theorem State.placeNotice_pd (s : State) : (s.placeNotice).pd = s.pd := by simp [State.placeNotice]
@[simp] theorem State.placeNotice_vd (s : State) : (s.placeNotice).vd = s.vd := by simp [State.placeNotice]
@[simp] theorem State.placeNotice_sp (s : State) : (s.placeNotice).sp = s.sp := by simp [State.placeNotice]
@[simp] theorem State.placeNotice_ties (s : State) : (s.placeNotice).ties = s.ties := by simp [State.placeNotice]
@[simp] theorem State.placeNotice_pending (s : State) : (s.placeNotice).pending = s.pending := by simp [State.placeNotice]
@[simp] theorem State.placeNotice_lu_receiver (s : State) : s.placeNotice.lu.receiver = s.lu.receiver := by
  simp only [State.placeNotice]; split <;> simp
@[simp] theorem State.placeNotice_lu_reportSlot (s : State) : s.placeNotice.lu.reportSlot = s.lu.reportSlot := by
  simp only [State.placeNotice]; split <;> simp
@[simp] theorem State.placeNotice_lu_sequence (s : State) : s.placeNotice.lu.sequence = s.lu.sequence := by
  simp only [State.placeNotice]; split <;> simp
@[simp] theorem State.placeNotice_lu_quiet (s : State) : s.placeNotice.lu.quiet = s.lu.quiet := by
  simp only [State.placeNotice]; split <;> simp
@[simp] theorem State.placeNotice_lu_beganSending (s : State) : s.placeNotice.lu.beganSending = s.lu.beganSending := by
  simp only [State.placeNotice]; split <;> simp
@[simp] theorem State.placeNotice_lu_noticeSlot (s : State) :
    s.placeNotice.lu.noticeSlot = some ⟨.notice ⟨s.sc.address, s.sc.role, s.lu.sequence⟩, 0⟩ := by
  simp only [State.placeNotice]; split <;> simp

/-- What the transmitter does when a notice is placed (R54, R63). -/
theorem State.placeNotice_transmitter (s : State) : s.placeNotice.lu.transmitter =
    match s.lu.transmitter with
    | .idle => servedBy s.sc.address s.placeNotice.lu.noticeSlot s.lu.reportSlot
    | .waiting x k gap => .waiting x k gap
    | .sending o t => .sending o t := by
  rw [State.placeNotice_lu_noticeSlot]
  simp only [State.placeNotice]
  cases h : s.lu.transmitter <;> simp_all

/-! ### The gap, collisions, a frame sent, a dominant line (R40, R56, R58, R59) -/


/-- The three ends of a collision of a frame in flight (R58). -/
theorem State.collision_cases {s : State} {o : Outgoing} {t : Nat} (h : s.lu.transmitter = .sending o t) :
    s.lu.superseding o = true ∧
      s.collision = ({ s.bump .collisions with lu := ({ s.lu with
        receiver := s.lu.receiver.unmark, beganSending := false }).serve s.sc.address }).bump .superseded ∨
    s.lu.superseding o = false ∧ o.attempt + 1 < 6 ∧
      s.collision = { s.bump .collisions with lu := (({ s.lu with
        receiver := s.lu.receiver.unmark, beganSending := false }).setSlot o.frame.slot
          (some ⟨o.frame, o.attempt + 1⟩)).serve s.sc.address } ∨
    s.lu.superseding o = false ∧ 6 ≤ o.attempt + 1 ∧
      s.collision = (({ s.bump .collisions with lu := ({ s.lu with
        receiver := s.lu.receiver.unmark, beganSending := false }).serve s.sc.address }).bump .abandoned).setLatch
          .txAbandoned := by
  unfold State.collision
  split
  · next o' t' h' =>
    cases h'.symm.trans h
    cases hs : s.lu.superseding o
    · by_cases ha : o.attempt + 1 < 6
      · exact .inr (.inl ⟨rfl, ha, (if_neg (by rw [State.bump_lu, hs]; decide)).trans (if_pos ha)⟩)
      · exact .inr (.inr ⟨rfl, by omega, (if_neg (by rw [State.bump_lu, hs]; decide)).trans (if_neg ha)⟩)
    · exact .inl ⟨rfl, if_pos hs⟩
  · next h' => exact absurd (h'.symm.trans h) (by simp)
  · next h' => exact absurd (h'.symm.trans h) (by simp)

/-- A collision with no frame in flight is none. -/
theorem State.collision_idle {s : State} (h : s.lu.transmitter.isSending = false) : s.collision = s := by
  unfold State.collision
  split <;> simp_all [Transmitter.isSending]

/-- What a collision leaves: all but the receiver's mark, the transmitter and its slots, the counters and the latches. -/
theorem State.collision_frame (s : State) :
    ∃ r x p n b latches counters, s.collision =
      { s with
        lu := ⟨r, x, p, n, s.lu.sequence, s.lu.quiet, b⟩
        sp := { s.sp with latches := latches, counters := counters } } := by
  cases ht : s.lu.transmitter.isSending with
  | false => exact ⟨_, _, _, _, _, _, _, State.collision_idle ht⟩
  | true =>
    cases hx : s.lu.transmitter with
    | idle => simp [hx, Transmitter.isSending] at ht
    | waiting y k g => simp [hx, Transmitter.isSending] at ht
    | sending o t =>
      rcases State.collision_cases hx with ⟨-, h⟩ | ⟨-, -, h⟩ | ⟨-, -, h⟩ <;> rw [h, LinkUnit.serve_eq]
      · exact ⟨_, _, _, _, _, _, _, rfl⟩
      · cases o.frame.slot <;> exact ⟨_, _, _, _, _, _, _, rfl⟩
      · exact ⟨_, _, _, _, _, _, _, rfl⟩

@[simp] theorem State.collision_inReset (s : State) : (s.collision).inReset = s.inReset := by
  obtain ⟨_, _, _, _, _, _, _, h⟩ := s.collision_frame; rw [h]
@[simp] theorem State.collision_sc (s : State) : (s.collision).sc = s.sc := by
  obtain ⟨_, _, _, _, _, _, _, h⟩ := s.collision_frame; rw [h]
@[simp] theorem State.collision_cfg (s : State) : (s.collision).cfg = s.cfg := by
  obtain ⟨_, _, _, _, _, _, _, h⟩ := s.collision_frame; rw [h]
@[simp] theorem State.collision_mu (s : State) : (s.collision).mu = s.mu := by
  obtain ⟨_, _, _, _, _, _, _, h⟩ := s.collision_frame; rw [h]
@[simp] theorem State.collision_fcu (s : State) : (s.collision).fcu = s.fcu := by
  obtain ⟨_, _, _, _, _, _, _, h⟩ := s.collision_frame; rw [h]
@[simp] theorem State.collision_pt (s : State) : (s.collision).pt = s.pt := by
  obtain ⟨_, _, _, _, _, _, _, h⟩ := s.collision_frame; rw [h]
@[simp] theorem State.collision_cu (s : State) : (s.collision).cu = s.cu := by
  obtain ⟨_, _, _, _, _, _, _, h⟩ := s.collision_frame; rw [h]
@[simp] theorem State.collision_fe (s : State) : (s.collision).fe = s.fe := by
  obtain ⟨_, _, _, _, _, _, _, h⟩ := s.collision_frame; rw [h]
@[simp] theorem State.collision_pd (s : State) : (s.collision).pd = s.pd := by
  obtain ⟨_, _, _, _, _, _, _, h⟩ := s.collision_frame; rw [h]
@[simp] theorem State.collision_vd (s : State) : (s.collision).vd = s.vd := by
  obtain ⟨_, _, _, _, _, _, _, h⟩ := s.collision_frame; rw [h]
@[simp] theorem State.collision_ties (s : State) : (s.collision).ties = s.ties := by
  obtain ⟨_, _, _, _, _, _, _, h⟩ := s.collision_frame; rw [h]
@[simp] theorem State.collision_pending (s : State) : (s.collision).pending = s.pending := by
  obtain ⟨_, _, _, _, _, _, _, h⟩ := s.collision_frame; rw [h]
@[simp] theorem State.collision_sp_response (s : State) : (s.collision).sp.response = s.sp.response := by
  obtain ⟨_, _, _, _, _, _, _, h⟩ := s.collision_frame; rw [h]
@[simp] theorem State.collision_sp_select (s : State) : (s.collision).sp.select = s.sp.select := by
  obtain ⟨_, _, _, _, _, _, _, h⟩ := s.collision_frame; rw [h]
@[simp] theorem State.collision_sp_ssnHigh (s : State) : (s.collision).sp.ssnHigh = s.sp.ssnHigh := by
  obtain ⟨_, _, _, _, _, _, _, h⟩ := s.collision_frame; rw [h]
@[simp] theorem State.collision_lu_sequence (s : State) : (s.collision).lu.sequence = s.lu.sequence := by
  obtain ⟨_, _, _, _, _, _, _, h⟩ := s.collision_frame; rw [h]
@[simp] theorem State.collision_lu_quiet (s : State) : (s.collision).lu.quiet = s.lu.quiet := by
  obtain ⟨_, _, _, _, _, _, _, h⟩ := s.collision_frame; rw [h]
@[simp] theorem LinkUnit.dominant_receiver (n : Nat) (l : LinkUnit) : (l.dominant n).receiver = l.receiver := rfl
@[simp] theorem LinkUnit.dominant_reportSlot (n : Nat) (l : LinkUnit) : (l.dominant n).reportSlot = l.reportSlot := rfl
@[simp] theorem LinkUnit.dominant_noticeSlot (n : Nat) (l : LinkUnit) : (l.dominant n).noticeSlot = l.noticeSlot := rfl
@[simp] theorem LinkUnit.dominant_sequence (n : Nat) (l : LinkUnit) : (l.dominant n).sequence = l.sequence := rfl
@[simp] theorem LinkUnit.dominant_beganSending (n : Nat) (l : LinkUnit) : (l.dominant n).beganSending = l.beganSending := rfl

@[simp] theorem LinkUnit.dominant_isSending (n : Nat) (l : LinkUnit) :
    (l.dominant n).transmitter.isSending = l.transmitter.isSending := by
  unfold LinkUnit.dominant; cases l.transmitter <;> rfl

@[simp] theorem LinkUnit.dominant_serving (n : Nat) (l : LinkUnit) (x : Slot) :
    (l.dominant n).transmitter.serving x = l.transmitter.serving x := by
  unfold LinkUnit.dominant; cases l.transmitter <;> rfl

@[simp] theorem LinkUnit.dominant_inFlightFrom (n : Nat) (l : LinkUnit) (x : Slot) :
    (l.dominant n).transmitter.inFlightFrom x = l.transmitter.inFlightFrom x := by
  unfold LinkUnit.dominant; cases l.transmitter <;> rfl

/-- All that the completion of an access gap can do (R54, R56). -/
theorem State.accessGap_cases (s : State) : s.accessGap = s ∨
    ∃ slot k gap o, s.lu.transmitter = .waiting slot k gap ∧ s.lu.slot slot = some o ∧
      s.accessGap = { s.pass (gapClocks k - gap) with
        lu := { (s.pass (gapClocks k - gap)).lu.setSlot slot none with
          transmitter := .sending o 0, quiet := 0, beganSending := true } } := by
  cases ht : s.lu.transmitter with
  | waiting slot k gap =>
    cases ho : s.lu.slot slot with
    | some o => exact .inr ⟨slot, k, gap, o, rfl, ho, by simp only [State.accessGap, ht, ho]⟩
    | none => exact .inl (by simp only [State.accessGap, ht, ho])
  | idle => exact .inl (by simp only [State.accessGap, ht])
  | sending o t => exact .inl (by simp only [State.accessGap, ht])

/-- All that the end of a frame can do (R59). -/
theorem State.frameSent_cases (s : State) : s.frameSent = s ∨
    ∃ o t d, s.lu.transmitter = .sending o t ∧ d = bitClocks o.frame.bitTimes - t ∧
      s.frameSent = { s.pass d with
        lu := { (s.pass d).lu with
          transmitter := servedBy s.sc.address s.lu.noticeSlot s.lu.reportSlot, beganSending := false } } := by
  cases ht : s.lu.transmitter with
  | sending o t => exact .inr ⟨o, t, _, rfl, rfl, by simp only [State.frameSent, ht, LinkUnit.serve_eq]; rfl⟩
  | idle => exact .inl (by simp only [State.frameSent, ht])
  | waiting slot k gap => exact .inl (by simp only [State.frameSent, ht])

/-- All that a dominant line does to the Link Unit (R40, R56). -/
theorem LinkUnit.dominant_eq (ago : Nat) (l : LinkUnit) : l.dominant ago =
    { l with
      quiet := min l.quiet ago
      transmitter := match l.transmitter with
        | .waiting slot k gap => .waiting slot k (min gap ago)
        | other => other } := by
  simp only [LinkUnit.dominant]
  cases l.transmitter <;> rfl

/-- All that the receiver does with a character that does not complete a frame (R49, R50): it moves to a receiver state, and may
count one format error. -/
theorem State.receive_cases {c : Byte} {s : State} (h : s.lu.receiver.completedBy c = false) :
    ∃ r b, s.receive c = { s with lu.receiver := r }.bumpIf b .formatErrors := by
  cases hr : s.lu.receiver with
  | off => exact ⟨.off, false, by simp only [State.receive, hr, State.bumpIf]; rw [← hr]; rfl⟩
  | discard => exact ⟨.discard, false, by simp only [State.receive, hr, State.bumpIf]; rw [← hr]; rfl⟩
  | hunt =>
    by_cases hc : c = delimiter
    · exact ⟨_, false, by simp only [State.receive, hr, if_pos hc]; rfl⟩
    · exact ⟨_, false, by simp only [State.receive, hr, if_neg hc]; rfl⟩
  | collect own cs =>
    rw [hr] at h
    simp only [State.receive, hr]
    split
    · exact ⟨_, _, rfl⟩
    · rename_i h1
      cases cs with
      | nil =>
        refine ⟨.collect own [c], false, ?_⟩
        have : frameWhole [c] = false := by simp [frameWhole]
        simp [this, State.bumpIf]
      | cons l rest =>
        have : frameWhole (l :: rest ++ [c]) = false := by simpa [Receiver.completedBy] using h
        exact ⟨_, false, by simp only [this]; rfl⟩

end Sys2Proof.Machine
end

