-- ==== Sys2Proof/Laws/Table.lean ====
section
/-! SUPPORT. The Peer Table and the Inbound Queue: what each operation on them leaves and what it does, once. -/

namespace Sys2Proof.Machine

/-! ### Entries -/

theorem PeerTable.find_mem {t : PeerTable} {a : Nat} {e : Entry} (h : t.find a = some e) :
    e ∈ t.entries ∧ e.address = a :=
  ⟨List.mem_of_find?_eq_some h, by simpa using List.find?_some h⟩

theorem PeerTable.find_eq_none {t : PeerTable} {a : Nat} : t.find a = none ↔ ∀ e ∈ t.entries, e.address ≠ a := by
  simp [PeerTable.find]

/-- An entry put into the table is found at its own address, and every other address finds what it found (R64). -/
theorem find_putEntry (e : Entry) (es : List Entry) (q : List Frame) (a : Nat) :
    PeerTable.find ⟨putEntry e es, q⟩ a = if a = e.address then some e else PeerTable.find ⟨es, q⟩ a := by
  unfold PeerTable.find
  induction es with
  | nil =>
    simp only [putEntry, List.find?_cons, List.find?_nil]
    grind
  | cons x xs ih =>
    unfold putEntry
    dsimp only at ih ⊢
    split_ifs with h1 h2 h3 h4 h5 <;> simp_all [List.find?_cons]
    all_goals grind

/-- An entry dropped from the table is found no more, and every other address finds what it found. -/
theorem find_dropEntry (d : Nat) (es : List Entry) (q : List Frame) (a : Nat) :
    PeerTable.find ⟨dropEntry d es, q⟩ a = if a = d then none else PeerTable.find ⟨es, q⟩ a := by
  unfold PeerTable.find dropEntry
  induction es with
  | nil => simp
  | cons x xs ih =>
    dsimp only at ih ⊢
    rw [List.filter_cons]
    grind

/-- Every entry of a table with one put in is that one or one of the table's. -/
theorem mem_putEntry {e x : Entry} {es : List Entry} (h : x ∈ putEntry e es) : x = e ∨ x ∈ es := by
  induction es with
  | nil => simpa [putEntry] using h
  | cons y ys ih =>
    unfold putEntry at h
    grind

/-- Putting an entry in keeps the ascending order of addresses (R64). -/
theorem pairwise_putEntry {e : Entry} {es : List Entry} (h : es.Pairwise (fun a b => a.address < b.address)) :
    (putEntry e es).Pairwise (fun a b => a.address < b.address) := by
  induction es with
  | nil => simp [putEntry]
  | cons y ys ih =>
    rw [List.pairwise_cons] at h
    unfold putEntry
    split_ifs with h1 h2
    · simp only [List.pairwise_cons, List.mem_cons]
      grind
    · simp only [List.pairwise_cons]
      grind
    · simp only [List.pairwise_cons]
      refine ⟨fun x hx => ?_, ih h.2⟩
      rcases mem_putEntry hx with rfl | hx
      · omega
      · exact h.1 x hx

/-! ### Applying frames -/

/-- What a report leaves as it is: all but the entries, the latches and the counters. -/
theorem State.applyReport_frame (r : Report) (s : State) :
    ∃ es latches counters, s.applyReport r =
      { s with pt.entries := es, sp.latches := latches, sp.counters := counters } := by
  unfold State.applyReport
  split
  · exact ⟨_, _, _, rfl⟩
  · split
    · exact ⟨_, _, _, rfl⟩
    · split
      · exact ⟨_, _, _, rfl⟩
      · dsimp only
        split
        · exact ⟨_, _, _, rfl⟩
        · split <;> exact ⟨_, _, _, rfl⟩

/-- What a frame leaves as it is: all but the entries, the latches and the counters. -/
theorem State.applyFrame_frame (f : Frame) (s : State) :
    ∃ es latches counters, s.applyFrame f =
      { s with pt.entries := es, sp.latches := latches, sp.counters := counters } := by
  cases f with
  | report r => exact State.applyReport_frame r s
  | notice n =>
    simp only [State.applyFrame, State.applyNotice]
    split <;> exact ⟨_, _, _, rfl⟩

@[simp] theorem State.applyFrame_inReset (s : State) (f : Frame) : (s.applyFrame f).inReset = s.inReset := by obtain ⟨_, _, _, h⟩ := State.applyFrame_frame f s; rw [h]
@[simp] theorem State.applyFrame_sc (s : State) (f : Frame) : (s.applyFrame f).sc = s.sc := by obtain ⟨_, _, _, h⟩ := State.applyFrame_frame f s; rw [h]
@[simp] theorem State.applyFrame_cfg (s : State) (f : Frame) : (s.applyFrame f).cfg = s.cfg := by obtain ⟨_, _, _, h⟩ := State.applyFrame_frame f s; rw [h]
@[simp] theorem State.applyFrame_mu (s : State) (f : Frame) : (s.applyFrame f).mu = s.mu := by obtain ⟨_, _, _, h⟩ := State.applyFrame_frame f s; rw [h]
@[simp] theorem State.applyFrame_fcu (s : State) (f : Frame) : (s.applyFrame f).fcu = s.fcu := by obtain ⟨_, _, _, h⟩ := State.applyFrame_frame f s; rw [h]
@[simp] theorem State.applyFrame_lu (s : State) (f : Frame) : (s.applyFrame f).lu = s.lu := by obtain ⟨_, _, _, h⟩ := State.applyFrame_frame f s; rw [h]
@[simp] theorem State.applyFrame_cu (s : State) (f : Frame) : (s.applyFrame f).cu = s.cu := by obtain ⟨_, _, _, h⟩ := State.applyFrame_frame f s; rw [h]
@[simp] theorem State.applyFrame_fe (s : State) (f : Frame) : (s.applyFrame f).fe = s.fe := by obtain ⟨_, _, _, h⟩ := State.applyFrame_frame f s; rw [h]
@[simp] theorem State.applyFrame_pd (s : State) (f : Frame) : (s.applyFrame f).pd = s.pd := by obtain ⟨_, _, _, h⟩ := State.applyFrame_frame f s; rw [h]
@[simp] theorem State.applyFrame_vd (s : State) (f : Frame) : (s.applyFrame f).vd = s.vd := by obtain ⟨_, _, _, h⟩ := State.applyFrame_frame f s; rw [h]
@[simp] theorem State.applyFrame_ties (s : State) (f : Frame) : (s.applyFrame f).ties = s.ties := by obtain ⟨_, _, _, h⟩ := State.applyFrame_frame f s; rw [h]
@[simp] theorem State.applyFrame_pending (s : State) (f : Frame) : (s.applyFrame f).pending = s.pending := by obtain ⟨_, _, _, h⟩ := State.applyFrame_frame f s; rw [h]
@[simp] theorem State.applyFrame_pt_queue (s : State) (f : Frame) : (s.applyFrame f).pt.queue = s.pt.queue := by obtain ⟨_, _, _, h⟩ := State.applyFrame_frame f s; rw [h]
@[simp] theorem State.applyFrame_sp_response (s : State) (f : Frame) : (s.applyFrame f).sp.response = s.sp.response := by obtain ⟨_, _, _, h⟩ := State.applyFrame_frame f s; rw [h]
@[simp] theorem State.applyFrame_sp_select (s : State) (f : Frame) : (s.applyFrame f).sp.select = s.sp.select := by obtain ⟨_, _, _, h⟩ := State.applyFrame_frame f s; rw [h]
@[simp] theorem State.applyFrame_sp_ssnHigh (s : State) (f : Frame) : (s.applyFrame f).sp.ssnHigh = s.sp.ssnHigh := by obtain ⟨_, _, _, h⟩ := State.applyFrame_frame f s; rw [h]

/-- All that a frame can do at given entries: it leaves new ones, sets TABLE_CHANGED, or steps DUPLICATES or SEQ_REJECTS. -/
theorem State.applyFrame_shape (es : List Entry) (f : Frame) : ∃ (after : List Entry) (changed duplicate rejected : Bool),
    ∀ s : State, s.pt.entries = es → s.applyFrame f =
      (((s.withEntries after).setLatchIf changed .tableChanged).bumpIf duplicate .duplicates).bumpIf rejected .seqRejects := by
  have stay : ∀ s : State, s.pt.entries = es → s.withEntries es = s := fun s h => by subst h; rfl
  cases f with
  | notice n =>
    by_cases h : ((⟨es, []⟩ : PeerTable).find n.source).isSome = true
    · refine ⟨dropEntry n.source es, true, false, false, fun s hs => ?_⟩
      subst hs
      exact if_pos h
    · refine ⟨es, false, false, false, fun s hs => ?_⟩
      refine Eq.trans ?_ (stay s hs).symm
      subst hs
      exact if_neg h
  | report r =>
    cases h : (⟨es, []⟩ : PeerTable).find r.source with
    | none =>
      refine ⟨putEntry (Entry.created r) es, true, false, false, fun s hs => ?_⟩
      have h' : s.pt.find r.source = none := by subst hs; exact h
      simp only [State.applyFrame, State.applyReport, h', hs]; rfl
    | some e =>
      have h' : ∀ s : State, s.pt.entries = es → s.pt.find r.source = some e := fun s hs => by subst hs; exact h
      by_cases h1 : e.role = r.role
      · by_cases h2 : r.flags.restarted = true
        · refine ⟨putEntry { e.refreshed r 0 with gapCount := e.gapCount } es, false, false, false, fun s hs => ?_⟩
          simp only [State.applyFrame, State.applyReport, h' s hs, ne_eq, not_true_eq_false, reduceIte, h1, h2, hs]; rfl
        · by_cases h3 : (r.sequence - e.lastSequence).toNat = 0
          · refine ⟨es, false, true, false, fun s hs => ?_⟩
            rw [stay s hs]
            simp only [State.applyFrame, State.applyReport, h' s hs, ne_eq, not_true_eq_false, reduceIte, Bool.false_eq_true, h1, h2, h3]; rfl
          · by_cases h4 : (r.sequence - e.lastSequence).toNat ≤ 127
            · refine ⟨putEntry (e.refreshed r ((r.sequence - e.lastSequence).toNat - 1)) es, false, false, false, fun s hs => ?_⟩
              simp only [State.applyFrame, State.applyReport, h' s hs, ne_eq, not_true_eq_false, reduceIte, Bool.false_eq_true, h1, h2, h3, h4, hs]; rfl
            · refine ⟨es, false, false, true, fun s hs => ?_⟩
              rw [stay s hs]
              simp only [State.applyFrame, State.applyReport, h' s hs, ne_eq, not_true_eq_false, reduceIte, Bool.false_eq_true, h1, h2, h3, h4]; rfl
      · refine ⟨putEntry (Entry.created r) es, true, false, false, fun s hs => ?_⟩
        simp only [State.applyFrame, State.applyReport, h' s hs, hs, ne_eq, not_false_eq_true, reduceIte, h1]; rfl

/-- Whatever no single frame changes, no run of frames changes. -/
theorem State.foldl_applyFrame_keeps {α : Type} (g : State → α) (h : ∀ s f, g (State.applyFrame s f) = g s)
    (q : List Frame) (s : State) : g (q.foldl State.applyFrame s) = g s := by
  induction q generalizing s with
  | nil => rfl
  | cons f q ih => rw [List.foldl_cons, ih, h]

@[simp] theorem State.foldl_applyFrame_inReset (q : List Frame) (s : State) : (q.foldl State.applyFrame s).inReset = s.inReset :=
  State.foldl_applyFrame_keeps (·.inReset) (by simp) q s
@[simp] theorem State.foldl_applyFrame_sc (q : List Frame) (s : State) : (q.foldl State.applyFrame s).sc = s.sc :=
  State.foldl_applyFrame_keeps (·.sc) (by simp) q s
@[simp] theorem State.foldl_applyFrame_cfg (q : List Frame) (s : State) : (q.foldl State.applyFrame s).cfg = s.cfg :=
  State.foldl_applyFrame_keeps (·.cfg) (by simp) q s
@[simp] theorem State.foldl_applyFrame_mu (q : List Frame) (s : State) : (q.foldl State.applyFrame s).mu = s.mu :=
  State.foldl_applyFrame_keeps (·.mu) (by simp) q s
@[simp] theorem State.foldl_applyFrame_fcu (q : List Frame) (s : State) : (q.foldl State.applyFrame s).fcu = s.fcu :=
  State.foldl_applyFrame_keeps (·.fcu) (by simp) q s
@[simp] theorem State.foldl_applyFrame_lu (q : List Frame) (s : State) : (q.foldl State.applyFrame s).lu = s.lu :=
  State.foldl_applyFrame_keeps (·.lu) (by simp) q s
@[simp] theorem State.foldl_applyFrame_cu (q : List Frame) (s : State) : (q.foldl State.applyFrame s).cu = s.cu :=
  State.foldl_applyFrame_keeps (·.cu) (by simp) q s
@[simp] theorem State.foldl_applyFrame_fe (q : List Frame) (s : State) : (q.foldl State.applyFrame s).fe = s.fe :=
  State.foldl_applyFrame_keeps (·.fe) (by simp) q s
@[simp] theorem State.foldl_applyFrame_pd (q : List Frame) (s : State) : (q.foldl State.applyFrame s).pd = s.pd :=
  State.foldl_applyFrame_keeps (·.pd) (by simp) q s
@[simp] theorem State.foldl_applyFrame_vd (q : List Frame) (s : State) : (q.foldl State.applyFrame s).vd = s.vd :=
  State.foldl_applyFrame_keeps (·.vd) (by simp) q s
@[simp] theorem State.foldl_applyFrame_ties (q : List Frame) (s : State) : (q.foldl State.applyFrame s).ties = s.ties :=
  State.foldl_applyFrame_keeps (·.ties) (by simp) q s
@[simp] theorem State.foldl_applyFrame_pending (q : List Frame) (s : State) : (q.foldl State.applyFrame s).pending = s.pending :=
  State.foldl_applyFrame_keeps (·.pending) (by simp) q s
@[simp] theorem State.foldl_applyFrame_pt_queue (q : List Frame) (s : State) :
    (q.foldl State.applyFrame s).pt.queue = s.pt.queue := State.foldl_applyFrame_keeps (·.pt.queue) (by simp) q s
@[simp] theorem State.foldl_applyFrame_sp_response (q : List Frame) (s : State) :
    (q.foldl State.applyFrame s).sp.response = s.sp.response := State.foldl_applyFrame_keeps (·.sp.response) (by simp) q s
@[simp] theorem State.foldl_applyFrame_sp_select (q : List Frame) (s : State) :
    (q.foldl State.applyFrame s).sp.select = s.sp.select := State.foldl_applyFrame_keeps (·.sp.select) (by simp) q s
@[simp] theorem State.foldl_applyFrame_sp_ssnHigh (q : List Frame) (s : State) :
    (q.foldl State.applyFrame s).sp.ssnHigh = s.sp.ssnHigh := State.foldl_applyFrame_keeps (·.sp.ssnHigh) (by simp) q s

/-! ### Draining, offering and routing (R67 to R71) -/

@[simp] theorem State.drain_inReset (s : State) : (s.drain).inReset = s.inReset := by simp [State.drain]
@[simp] theorem State.drain_sc (s : State) : (s.drain).sc = s.sc := by simp [State.drain]
@[simp] theorem State.drain_cfg (s : State) : (s.drain).cfg = s.cfg := by simp [State.drain]
@[simp] theorem State.drain_mu (s : State) : (s.drain).mu = s.mu := by simp [State.drain]
@[simp] theorem State.drain_fcu (s : State) : (s.drain).fcu = s.fcu := by simp [State.drain]
@[simp] theorem State.drain_lu (s : State) : (s.drain).lu = s.lu := by simp [State.drain]
@[simp] theorem State.drain_cu (s : State) : (s.drain).cu = s.cu := by simp [State.drain]
@[simp] theorem State.drain_fe (s : State) : (s.drain).fe = s.fe := by simp [State.drain]
@[simp] theorem State.drain_pd (s : State) : (s.drain).pd = s.pd := by simp [State.drain]
@[simp] theorem State.drain_vd (s : State) : (s.drain).vd = s.vd := by simp [State.drain]
@[simp] theorem State.drain_ties (s : State) : (s.drain).ties = s.ties := by simp [State.drain]
@[simp] theorem State.drain_pending (s : State) : (s.drain).pending = s.pending := by simp [State.drain]
@[simp] theorem State.drain_pt_queue (s : State) : (s.drain).pt.queue = [] := by simp [State.drain]
@[simp] theorem State.drain_sp_response (s : State) : (s.drain).sp.response = s.sp.response := by simp [State.drain]
@[simp] theorem State.drain_sp_select (s : State) : (s.drain).sp.select = s.sp.select := by simp [State.drain]
@[simp] theorem State.drain_sp_ssnHigh (s : State) : (s.drain).sp.ssnHigh = s.sp.ssnHigh := by simp [State.drain]
@[simp] theorem State.drain_pt_entries (s : State) :
    s.drain.pt.entries = (s.pt.queue.foldl State.applyFrame s).pt.entries := rfl

@[simp] theorem State.drain_sp_latches (s : State) :
    s.drain.sp.latches = (s.pt.queue.foldl State.applyFrame s).sp.latches := rfl

@[simp] theorem State.drain_sp_counters (s : State) :
    s.drain.sp.counters = (s.pt.queue.foldl State.applyFrame s).sp.counters := rfl

/-- A frame offered to the queue replaces its source's record, joins at the end, or is lost with OVERRUNS and RX_OVERRUN
(R69, R70). -/
theorem State.offer_cases (f : Frame) (s : State) :
    s.offer f = { s with pt.queue := replaceInPlace f s.pt.queue } ∨
    s.offer f = { s with pt.queue := s.pt.queue ++ [f] } ∧ s.pt.queue.length < 8 ∨
    s.offer f = (s.bump .overruns).setLatch .rxOverrun := by
  unfold State.offer
  split
  · exact .inl rfl
  · split
    · exact .inr (.inl ⟨rfl, ‹_›⟩)
    · exact .inr (.inr rfl)

@[simp] theorem State.offer_inReset (s : State) (f : Frame) : (s.offer f).inReset = s.inReset := by
  rcases State.offer_cases f s with h | ⟨h, -⟩ | h <;> rw [h] <;> rfl
@[simp] theorem State.offer_sc (s : State) (f : Frame) : (s.offer f).sc = s.sc := by
  rcases State.offer_cases f s with h | ⟨h, -⟩ | h <;> rw [h] <;> rfl
@[simp] theorem State.offer_cfg (s : State) (f : Frame) : (s.offer f).cfg = s.cfg := by
  rcases State.offer_cases f s with h | ⟨h, -⟩ | h <;> rw [h] <;> rfl
@[simp] theorem State.offer_mu (s : State) (f : Frame) : (s.offer f).mu = s.mu := by
  rcases State.offer_cases f s with h | ⟨h, -⟩ | h <;> rw [h] <;> rfl
@[simp] theorem State.offer_fcu (s : State) (f : Frame) : (s.offer f).fcu = s.fcu := by
  rcases State.offer_cases f s with h | ⟨h, -⟩ | h <;> rw [h] <;> rfl
@[simp] theorem State.offer_lu (s : State) (f : Frame) : (s.offer f).lu = s.lu := by
  rcases State.offer_cases f s with h | ⟨h, -⟩ | h <;> rw [h] <;> rfl
@[simp] theorem State.offer_cu (s : State) (f : Frame) : (s.offer f).cu = s.cu := by
  rcases State.offer_cases f s with h | ⟨h, -⟩ | h <;> rw [h] <;> rfl
@[simp] theorem State.offer_fe (s : State) (f : Frame) : (s.offer f).fe = s.fe := by
  rcases State.offer_cases f s with h | ⟨h, -⟩ | h <;> rw [h] <;> rfl
@[simp] theorem State.offer_pd (s : State) (f : Frame) : (s.offer f).pd = s.pd := by
  rcases State.offer_cases f s with h | ⟨h, -⟩ | h <;> rw [h] <;> rfl
@[simp] theorem State.offer_vd (s : State) (f : Frame) : (s.offer f).vd = s.vd := by
  rcases State.offer_cases f s with h | ⟨h, -⟩ | h <;> rw [h] <;> rfl
@[simp] theorem State.offer_ties (s : State) (f : Frame) : (s.offer f).ties = s.ties := by
  rcases State.offer_cases f s with h | ⟨h, -⟩ | h <;> rw [h] <;> rfl
@[simp] theorem State.offer_pending (s : State) (f : Frame) : (s.offer f).pending = s.pending := by
  rcases State.offer_cases f s with h | ⟨h, -⟩ | h <;> rw [h] <;> rfl
@[simp] theorem State.offer_pt_entries (s : State) (f : Frame) : (s.offer f).pt.entries = s.pt.entries := by
  rcases State.offer_cases f s with h | ⟨h, -⟩ | h <;> rw [h] <;> rfl
@[simp] theorem State.offer_sp_response (s : State) (f : Frame) : (s.offer f).sp.response = s.sp.response := by
  rcases State.offer_cases f s with h | ⟨h, -⟩ | h <;> rw [h] <;> rfl
@[simp] theorem State.offer_sp_select (s : State) (f : Frame) : (s.offer f).sp.select = s.sp.select := by
  rcases State.offer_cases f s with h | ⟨h, -⟩ | h <;> rw [h] <;> rfl
@[simp] theorem State.offer_sp_ssnHigh (s : State) (f : Frame) : (s.offer f).sp.ssnHigh = s.sp.ssnHigh := by
  rcases State.offer_cases f s with h | ⟨h, -⟩ | h <;> rw [h] <;> rfl

@[simp] theorem State.route_inReset (s : State) (f : Frame) : (s.route f).inReset = s.inReset := by
  unfold State.route; split <;> simp
@[simp] theorem State.route_sc (s : State) (f : Frame) : (s.route f).sc = s.sc := by
  unfold State.route; split <;> simp
@[simp] theorem State.route_cfg (s : State) (f : Frame) : (s.route f).cfg = s.cfg := by
  unfold State.route; split <;> simp
@[simp] theorem State.route_mu (s : State) (f : Frame) : (s.route f).mu = s.mu := by
  unfold State.route; split <;> simp
@[simp] theorem State.route_fcu (s : State) (f : Frame) : (s.route f).fcu = s.fcu := by
  unfold State.route; split <;> simp
@[simp] theorem State.route_lu (s : State) (f : Frame) : (s.route f).lu = s.lu := by
  unfold State.route; split <;> simp
@[simp] theorem State.route_cu (s : State) (f : Frame) : (s.route f).cu = s.cu := by
  unfold State.route; split <;> simp
@[simp] theorem State.route_fe (s : State) (f : Frame) : (s.route f).fe = s.fe := by
  unfold State.route; split <;> simp
@[simp] theorem State.route_pd (s : State) (f : Frame) : (s.route f).pd = s.pd := by
  unfold State.route; split <;> simp
@[simp] theorem State.route_vd (s : State) (f : Frame) : (s.route f).vd = s.vd := by
  unfold State.route; split <;> simp
@[simp] theorem State.route_ties (s : State) (f : Frame) : (s.route f).ties = s.ties := by
  unfold State.route; split <;> simp
@[simp] theorem State.route_pending (s : State) (f : Frame) : (s.route f).pending = s.pending := by
  unfold State.route; split <;> simp
@[simp] theorem State.route_sp_response (s : State) (f : Frame) : (s.route f).sp.response = s.sp.response := by
  unfold State.route; split <;> simp
@[simp] theorem State.route_sp_select (s : State) (f : Frame) : (s.route f).sp.select = s.sp.select := by
  unfold State.route; split <;> simp
@[simp] theorem State.route_sp_ssnHigh (s : State) (f : Frame) : (s.route f).sp.ssnHigh = s.sp.ssnHigh := by
  unfold State.route; split <;> simp

/-- The frames that wait keep their sources when one is replaced in place. -/
theorem replaceInPlace_sources (f : Frame) (q : List Frame) :
    (replaceInPlace f q).map Frame.source = q.map Frame.source := by
  induction q with
  | nil => rfl
  | cons x xs ih =>
    unfold replaceInPlace
    split
    · simp_all
    · simp [ih]

theorem mem_replaceInPlace {f x : Frame} {q : List Frame} (h : x ∈ replaceInPlace f q) : x = f ∨ x ∈ q := by
  induction q with
  | nil => simp [replaceInPlace] at h
  | cons y ys ih =>
    unfold replaceInPlace at h
    grind

/-! ### Aging (R78 to R80) -/

/-- What a pass does to the entries. -/
theorem State.agingPass_pt (s : State) : s.agingPass.pt = ⟨passOver s.cfg.staleLimit s.pt.entries, s.pt.queue⟩ := by
  have h : ∀ es : List Entry, ((es.map (Entry.aged s.cfg.staleLimit)).partition
      (fun e => e.age < 2 * s.cfg.staleLimit)).1 = passOver s.cfg.staleLimit es := by
    intro es
    rw [List.partition_eq_filter_filter]
    induction es with
    | nil => rfl
    | cons e es ih =>
      simp only [List.map_cons, List.filter_cons, passOver, List.filterMap_cons] at ih ⊢
      by_cases hl : e.age + 1 < 2 * s.cfg.staleLimit <;> simp [hl, Entry.aged] at ih ⊢ <;> exact ih
  simp only [State.agingPass, ← h]
  simp [State.withEntries]

/-- A pass sets TABLE_CHANGED if it removes an entry, INDEX_LOST if it removes the index, and no other latch (R80). -/
theorem State.agingPass_latched (s : State) (l : Latch) : s.agingPass.latched l = (s.latched l ||
    (l == Latch.tableChanged && passRemoves s.cfg.staleLimit s.pt.entries (fun _ => true)) ||
    (l == Latch.indexLost && passRemoves s.cfg.staleLimit s.pt.entries (fun a => s.fe.indexAddress == some a))) := by
  have h : ∀ p : Nat → Bool, ((s.pt.entries.map (Entry.aged s.cfg.staleLimit)).partition
      (fun e => e.age < 2 * s.cfg.staleLimit)).2.any (fun e => p e.address) =
      passRemoves s.cfg.staleLimit s.pt.entries p := by
    intro p
    rw [List.partition_eq_filter_filter]
    simp only [passRemoves, List.any_filter, List.any_map]
    congr 1
    funext e
    by_cases hl : e.age + 1 < 2 * s.cfg.staleLimit
    · simp [Entry.aged, hl, Nat.not_le.mpr hl]
    · simp [Entry.aged, hl, Nat.not_lt.mp hl]
  have h0 : ∀ L : List Entry, (!L.isEmpty) = L.any (fun _ => true) := by intro L; cases L <;> simp
  have h1 := h (fun _ => true)
  have h2 := h (fun a => s.fe.indexAddress == some a)
  simp only [State.agingPass, State.latched_setLatchIf, h0, h1, h2]
  have h3 : ∀ es, (s.withEntries es).latched l = s.latched l := fun _ => rfl
  rw [h3]
  generalize passRemoves s.cfg.staleLimit s.pt.entries (fun _ => true) = a
  generalize passRemoves s.cfg.staleLimit s.pt.entries (fun a => s.fe.indexAddress == some a) = b
  generalize s.latched l = c
  revert a b c
  cases l <;> decide

@[simp] theorem State.agingPass_inReset (s : State) : (s.agingPass).inReset = s.inReset := by
  simp [State.agingPass]
@[simp] theorem State.agingPass_sc (s : State) : (s.agingPass).sc = s.sc := by
  simp [State.agingPass]
@[simp] theorem State.agingPass_cfg (s : State) : (s.agingPass).cfg = s.cfg := by
  simp [State.agingPass]
@[simp] theorem State.agingPass_mu (s : State) : (s.agingPass).mu = s.mu := by
  simp [State.agingPass]
@[simp] theorem State.agingPass_fcu (s : State) : (s.agingPass).fcu = s.fcu := by
  simp [State.agingPass]
@[simp] theorem State.agingPass_lu (s : State) : (s.agingPass).lu = s.lu := by
  simp [State.agingPass]
@[simp] theorem State.agingPass_cu (s : State) : (s.agingPass).cu = s.cu := by
  simp [State.agingPass]
@[simp] theorem State.agingPass_fe (s : State) : (s.agingPass).fe = s.fe := by
  simp [State.agingPass]
@[simp] theorem State.agingPass_pd (s : State) : (s.agingPass).pd = s.pd := by
  simp [State.agingPass]
@[simp] theorem State.agingPass_vd (s : State) : (s.agingPass).vd = s.vd := by
  simp [State.agingPass]
@[simp] theorem State.agingPass_ties (s : State) : (s.agingPass).ties = s.ties := by
  simp [State.agingPass]
@[simp] theorem State.agingPass_pending (s : State) : (s.agingPass).pending = s.pending := by
  simp [State.agingPass]
@[simp] theorem State.agingPass_pt_queue (s : State) : (s.agingPass).pt.queue = s.pt.queue := by
  simp [State.agingPass]
@[simp] theorem State.agingPass_sp_counters (s : State) : (s.agingPass).sp.counters = s.sp.counters := by
  simp [State.agingPass]
@[simp] theorem State.agingPass_sp_response (s : State) : (s.agingPass).sp.response = s.sp.response := by
  simp [State.agingPass]
@[simp] theorem State.agingPass_sp_select (s : State) : (s.agingPass).sp.select = s.sp.select := by
  simp [State.agingPass]
@[simp] theorem State.agingPass_sp_ssnHigh (s : State) : (s.agingPass).sp.ssnHigh = s.sp.ssnHigh := by
  simp [State.agingPass]

end Sys2Proof.Machine
end

