-- ==== Sys2Proof/Laws/Cycle.lean ====
section
/-! SUPPORT. The control cycle: what each step of a computation's start and completion leaves and what it does, once. -/

namespace Sys2Proof.Machine

/-! ### Computation start (R37, R91) -/

@[simp] theorem State.flowTimeoutIf_inReset (s : State) (b : Bool) : (s.flowTimeoutIf b).inReset = s.inReset := by
  unfold State.flowTimeoutIf; split <;> rfl
@[simp] theorem State.flowTimeoutIf_sc (s : State) (b : Bool) : (s.flowTimeoutIf b).sc = s.sc := by
  unfold State.flowTimeoutIf; split <;> rfl
@[simp] theorem State.flowTimeoutIf_cfg (s : State) (b : Bool) : (s.flowTimeoutIf b).cfg = s.cfg := by
  unfold State.flowTimeoutIf; split <;> rfl
@[simp] theorem State.flowTimeoutIf_mu (s : State) (b : Bool) : (s.flowTimeoutIf b).mu = s.mu := by
  unfold State.flowTimeoutIf; split <;> rfl
@[simp] theorem State.flowTimeoutIf_lu (s : State) (b : Bool) : (s.flowTimeoutIf b).lu = s.lu := by
  unfold State.flowTimeoutIf; split <;> rfl
@[simp] theorem State.flowTimeoutIf_pt (s : State) (b : Bool) : (s.flowTimeoutIf b).pt = s.pt := by
  unfold State.flowTimeoutIf; split <;> rfl
@[simp] theorem State.flowTimeoutIf_cu (s : State) (b : Bool) : (s.flowTimeoutIf b).cu = s.cu := by
  unfold State.flowTimeoutIf; split <;> rfl
@[simp] theorem State.flowTimeoutIf_fe (s : State) (b : Bool) : (s.flowTimeoutIf b).fe = s.fe := by
  unfold State.flowTimeoutIf; split <;> rfl
@[simp] theorem State.flowTimeoutIf_pd (s : State) (b : Bool) : (s.flowTimeoutIf b).pd = s.pd := by
  unfold State.flowTimeoutIf; split <;> rfl
@[simp] theorem State.flowTimeoutIf_vd (s : State) (b : Bool) : (s.flowTimeoutIf b).vd = s.vd := by
  unfold State.flowTimeoutIf; split <;> rfl
@[simp] theorem State.flowTimeoutIf_sp (s : State) (b : Bool) : (s.flowTimeoutIf b).sp = s.sp := by
  unfold State.flowTimeoutIf; split <;> rfl
@[simp] theorem State.flowTimeoutIf_ties (s : State) (b : Bool) : (s.flowTimeoutIf b).ties = s.ties := by
  unfold State.flowTimeoutIf; split <;> rfl
@[simp] theorem State.flowTimeoutIf_pending (s : State) (b : Bool) : (s.flowTimeoutIf b).pending = s.pending := by
  unfold State.flowTimeoutIf; split <;> rfl

/-- A computation start takes in its inputs, restarts the cycle timer, and times the FCU out where the timeout row of R37
holds; nothing else moves. -/
theorem State.startComputation_eq (s : State) : s.startComputation =
    { s with
      cu := ⟨some 0, .calc (s.takeIn s.flowGiven)⟩
      fcu := if s.flowLate then { s.fcu with seenEdge := false, lastPeriod := none, lastFlow := 0 } else s.fcu } := by
  simp only [State.startComputation, State.flowTimeoutIf]
  by_cases h : s.flowLate = true
  · have : s.fcu.seenEdge = true := by simp only [State.flowLate, Bool.and_eq_true] at h; exact h.1.1.2
    simp [h, this, FlowCaptureUnit.timedOut]
  · simp [h]

@[simp] theorem State.startComputation_inReset (s : State) : s.startComputation.inReset = s.inReset := by
  rw [State.startComputation_eq]
@[simp] theorem State.startComputation_sc (s : State) : s.startComputation.sc = s.sc := by
  rw [State.startComputation_eq]
@[simp] theorem State.startComputation_cfg (s : State) : s.startComputation.cfg = s.cfg := by
  rw [State.startComputation_eq]
@[simp] theorem State.startComputation_mu (s : State) : s.startComputation.mu = s.mu := by
  rw [State.startComputation_eq]
@[simp] theorem State.startComputation_lu (s : State) : s.startComputation.lu = s.lu := by
  rw [State.startComputation_eq]
@[simp] theorem State.startComputation_pt (s : State) : s.startComputation.pt = s.pt := by
  rw [State.startComputation_eq]
@[simp] theorem State.startComputation_fe (s : State) : s.startComputation.fe = s.fe := by
  rw [State.startComputation_eq]
@[simp] theorem State.startComputation_pd (s : State) : s.startComputation.pd = s.pd := by
  rw [State.startComputation_eq]
@[simp] theorem State.startComputation_vd (s : State) : s.startComputation.vd = s.vd := by
  rw [State.startComputation_eq]
@[simp] theorem State.startComputation_sp (s : State) : s.startComputation.sp = s.sp := by
  rw [State.startComputation_eq]
@[simp] theorem State.startComputation_ties (s : State) : s.startComputation.ties = s.ties := by
  rw [State.startComputation_eq]
@[simp] theorem State.startComputation_pending (s : State) : s.startComputation.pending = s.pending := by
  rw [State.startComputation_eq]
@[simp] theorem State.startComputation_cu (s : State) :
    s.startComputation.cu = ⟨some 0, .calc (s.takeIn s.flowGiven)⟩ := by rw [State.startComputation_eq]

/-- An aging pass changes nothing a computation takes in. -/
@[simp] theorem State.takeIn_agingPass (s : State) (f : Option Nat) : s.agingPass.takeIn f = s.takeIn f := by
  simp [State.takeIn]

@[simp] theorem State.flowGiven_agingPass (s : State) : s.agingPass.flowGiven = s.flowGiven := by
  simp [State.flowGiven]

@[simp] theorem State.flowLate_agingPass (s : State) : s.agingPass.flowLate = s.flowLate := by
  simp [State.flowLate]

/-! ### The steps of a completion (R93) -/

@[simp] theorem State.commitStarved_inReset (s : State) (b : Bool) : (s.commitStarved b).inReset = s.inReset := by
  simp [State.commitStarved]
@[simp] theorem State.commitStarved_sc (s : State) (b : Bool) : (s.commitStarved b).sc = s.sc := by
  simp [State.commitStarved]
@[simp] theorem State.commitStarved_cfg (s : State) (b : Bool) : (s.commitStarved b).cfg = s.cfg := by
  simp [State.commitStarved]
@[simp] theorem State.commitStarved_mu (s : State) (b : Bool) : (s.commitStarved b).mu = s.mu := by
  simp [State.commitStarved]
@[simp] theorem State.commitStarved_fcu (s : State) (b : Bool) : (s.commitStarved b).fcu = s.fcu := by
  simp [State.commitStarved]
@[simp] theorem State.commitStarved_lu (s : State) (b : Bool) : (s.commitStarved b).lu = s.lu := by
  simp [State.commitStarved]
@[simp] theorem State.commitStarved_pt (s : State) (b : Bool) : (s.commitStarved b).pt = s.pt := by
  simp [State.commitStarved]
@[simp] theorem State.commitStarved_cu (s : State) (b : Bool) : (s.commitStarved b).cu = s.cu := by
  simp [State.commitStarved]
@[simp] theorem State.commitStarved_pd (s : State) (b : Bool) : (s.commitStarved b).pd = s.pd := by
  simp [State.commitStarved]
@[simp] theorem State.commitStarved_vd (s : State) (b : Bool) : (s.commitStarved b).vd = s.vd := by
  simp [State.commitStarved]
@[simp] theorem State.commitStarved_ties (s : State) (b : Bool) : (s.commitStarved b).ties = s.ties := by
  simp [State.commitStarved]
@[simp] theorem State.commitStarved_pending (s : State) (b : Bool) : (s.commitStarved b).pending = s.pending := by
  simp [State.commitStarved]
@[simp] theorem State.commitStarved_fe_record (s : State) (b : Bool) : (s.commitStarved b).fe.record = s.fe.record := by
  simp [State.commitStarved]
@[simp] theorem State.commitStarved_fe_mode (s : State) (b : Bool) : (s.commitStarved b).fe.mode = s.fe.mode := by
  simp [State.commitStarved]
@[simp] theorem State.commitStarved_fe_speed (s : State) (b : Bool) : (s.commitStarved b).fe.speed = s.fe.speed := by
  simp [State.commitStarved]
@[simp] theorem State.commitStarved_fe_integral (s : State) (b : Bool) : (s.commitStarved b).fe.integral = s.fe.integral := by
  simp [State.commitStarved]
@[simp] theorem State.commitStarved_fe_atLimit (s : State) (b : Bool) : (s.commitStarved b).fe.atLimit = s.fe.atLimit := by
  simp [State.commitStarved]
@[simp] theorem State.commitStarved_fe_holdingCount (s : State) (b : Bool) : (s.commitStarved b).fe.holdingCount = s.fe.holdingCount := by
  simp [State.commitStarved]
@[simp] theorem State.commitStarved_fe_request (s : State) (b : Bool) : (s.commitStarved b).fe.request = s.fe.request := by
  simp [State.commitStarved]
@[simp] theorem State.commitStarved_fe_cap (s : State) (b : Bool) : (s.commitStarved b).fe.cap = s.fe.cap := by
  simp [State.commitStarved]
@[simp] theorem State.commitStarved_fe_lastStarved (s : State) (b : Bool) : (s.commitStarved b).fe.lastStarved = b := by
  simp [State.commitStarved]
@[simp] theorem State.commitStarved_sp_response (s : State) (b : Bool) : (s.commitStarved b).sp.response = s.sp.response := by
  simp [State.commitStarved]
@[simp] theorem State.commitStarved_sp_select (s : State) (b : Bool) : (s.commitStarved b).sp.select = s.sp.select := by
  simp [State.commitStarved]
@[simp] theorem State.commitStarved_sp_ssnHigh (s : State) (b : Bool) : (s.commitStarved b).sp.ssnHigh = s.sp.ssnHigh := by
  simp [State.commitStarved]

@[simp] theorem State.commitStarved_count (s : State) (b : Bool) (k : Counter) : (s.commitStarved b).count k =
    if b = true ∧ k = .starvedCycles then satCount (s.count k) else s.count k := by
  have h : (s.commitStarved b).count k = (s.bumpIf b .starvedCycles).count k := by
    cases b <;> simp [State.commitStarved, State.count]
  rw [h, State.count_bumpIf]

@[simp] theorem State.commitStarved_latched (s : State) (b : Bool) (l : Latch) : (s.commitStarved b).latched l =
    (s.latched l || (b && !s.fe.lastStarved && l == Latch.starvedEntered)) := by
  have h : (s.commitStarved b).latched l =
      ((s.bumpIf b .starvedCycles).setLatchIf (b && !s.fe.lastStarved) .starvedEntered).latched l := by
    simp [State.commitStarved, State.latched]
  rw [h]
  simp

@[simp] theorem State.reportStep_inReset (s : State) (r : Report) : (s.reportStep r).inReset = s.inReset := by
  unfold State.reportStep; split <;> simp
@[simp] theorem State.reportStep_cfg (s : State) (r : Report) : (s.reportStep r).cfg = s.cfg := by
  unfold State.reportStep; split <;> simp
@[simp] theorem State.reportStep_mu (s : State) (r : Report) : (s.reportStep r).mu = s.mu := by
  unfold State.reportStep; split <;> simp
@[simp] theorem State.reportStep_fcu (s : State) (r : Report) : (s.reportStep r).fcu = s.fcu := by
  unfold State.reportStep; split <;> simp
@[simp] theorem State.reportStep_pt (s : State) (r : Report) : (s.reportStep r).pt = s.pt := by
  unfold State.reportStep; split <;> simp
@[simp] theorem State.reportStep_cu (s : State) (r : Report) : (s.reportStep r).cu = s.cu := by
  unfold State.reportStep; split <;> simp
@[simp] theorem State.reportStep_fe (s : State) (r : Report) : (s.reportStep r).fe = s.fe := by
  unfold State.reportStep; split <;> simp
@[simp] theorem State.reportStep_pd (s : State) (r : Report) : (s.reportStep r).pd = s.pd := by
  unfold State.reportStep; split <;> simp
@[simp] theorem State.reportStep_vd (s : State) (r : Report) : (s.reportStep r).vd = s.vd := by
  unfold State.reportStep; split <;> simp
@[simp] theorem State.reportStep_ties (s : State) (r : Report) : (s.reportStep r).ties = s.ties := by
  unfold State.reportStep; split <;> simp
@[simp] theorem State.reportStep_pending (s : State) (r : Report) : (s.reportStep r).pending = s.pending := by
  unfold State.reportStep; split <;> simp
@[simp] theorem State.reportStep_sc_address (s : State) (r : Report) : (s.reportStep r).sc.address = s.sc.address := by
  unfold State.reportStep; split <;> simp
@[simp] theorem State.reportStep_sc_role (s : State) (r : Report) : (s.reportStep r).sc.role = s.sc.role := by
  unfold State.reportStep; split <;> simp
@[simp] theorem State.reportStep_sc_state (s : State) (r : Report) : (s.reportStep r).sc.state = s.sc.state := by
  unfold State.reportStep; split <;> simp
@[simp] theorem State.reportStep_sc_listenCount (s : State) (r : Report) : (s.reportStep r).sc.listenCount = s.sc.listenCount := by
  unfold State.reportStep; split <;> simp
@[simp] theorem State.reportStep_sc_muteCount (s : State) (r : Report) : (s.reportStep r).sc.muteCount = s.sc.muteCount := by
  unfold State.reportStep; split <;> simp
@[simp] theorem State.reportStep_sc_available (s : State) (r : Report) : (s.reportStep r).sc.available = s.sc.available := by
  unfold State.reportStep; split <;> simp
@[simp] theorem State.reportStep_lu_noticeSlot (s : State) (r : Report) : (s.reportStep r).lu.noticeSlot = s.lu.noticeSlot := by
  unfold State.reportStep; split <;> simp
@[simp] theorem State.reportStep_lu_receiver (s : State) (r : Report) : (s.reportStep r).lu.receiver = s.lu.receiver := by
  unfold State.reportStep; split <;> simp
@[simp] theorem State.reportStep_lu_quiet (s : State) (r : Report) : (s.reportStep r).lu.quiet = s.lu.quiet := by
  unfold State.reportStep; split <;> simp
@[simp] theorem State.reportStep_lu_beganSending (s : State) (r : Report) : (s.reportStep r).lu.beganSending = s.lu.beganSending := by
  unfold State.reportStep; split <;> simp
@[simp] theorem State.reportStep_sp_latches (s : State) (r : Report) : (s.reportStep r).sp.latches = s.sp.latches := by
  unfold State.reportStep; split <;> simp
@[simp] theorem State.reportStep_sp_response (s : State) (r : Report) : (s.reportStep r).sp.response = s.sp.response := by
  unfold State.reportStep; split <;> simp
@[simp] theorem State.reportStep_sp_select (s : State) (r : Report) : (s.reportStep r).sp.select = s.sp.select := by
  unfold State.reportStep; split <;> simp
@[simp] theorem State.reportStep_sp_ssnHigh (s : State) (r : Report) : (s.reportStep r).sp.ssnHigh = s.sp.ssnHigh := by
  unfold State.reportStep; split <;> simp

/-- The report of a completion in ACTIVE (R60 to R62). -/
theorem State.reportStep_of_active {s : State} (h : s.sc.state = .active) (r : Report) : s.reportStep r =
    { s with lu.sequence := s.lu.sequence + 1, sc.firstReport := false }.placeReport
      { r with sequence := s.lu.sequence + 1, flags.restarted := s.sc.firstReport } := by
  simp [State.reportStep, h]

/-- The report of a completion in MUTED is discarded (R61). -/
theorem State.reportStep_of_muted {s : State} (h : s.sc.state = .muted) (r : Report) :
    s.reportStep r = { s with lu.sequence := s.lu.sequence + 1 } := by simp [State.reportStep, h]

/-- Elsewhere there is none. -/
theorem State.reportStep_of_silent {s : State} (h1 : s.sc.state ≠ .active) (h2 : s.sc.state ≠ .muted) (r : Report) :
    s.reportStep r = s := by
  unfold State.reportStep; split <;> simp_all

@[simp] theorem State.enterActive_inReset (s : State) : (s.enterActive).inReset = s.inReset := by
  unfold State.enterActive; split <;> rfl
@[simp] theorem State.enterActive_cfg (s : State) : (s.enterActive).cfg = s.cfg := by
  unfold State.enterActive; split <;> rfl
@[simp] theorem State.enterActive_mu (s : State) : (s.enterActive).mu = s.mu := by
  unfold State.enterActive; split <;> rfl
@[simp] theorem State.enterActive_fcu (s : State) : (s.enterActive).fcu = s.fcu := by
  unfold State.enterActive; split <;> rfl
@[simp] theorem State.enterActive_lu (s : State) : (s.enterActive).lu = s.lu := by
  unfold State.enterActive; split <;> rfl
@[simp] theorem State.enterActive_pt (s : State) : (s.enterActive).pt = s.pt := by
  unfold State.enterActive; split <;> rfl
@[simp] theorem State.enterActive_cu (s : State) : (s.enterActive).cu = s.cu := by
  unfold State.enterActive; split <;> rfl
@[simp] theorem State.enterActive_pd (s : State) : (s.enterActive).pd = s.pd := by
  unfold State.enterActive; split <;> rfl
@[simp] theorem State.enterActive_vd (s : State) : (s.enterActive).vd = s.vd := by
  unfold State.enterActive; split <;> rfl
@[simp] theorem State.enterActive_sp (s : State) : (s.enterActive).sp = s.sp := by
  unfold State.enterActive; split <;> rfl
@[simp] theorem State.enterActive_ties (s : State) : (s.enterActive).ties = s.ties := by
  unfold State.enterActive; split <;> rfl
@[simp] theorem State.enterActive_pending (s : State) : (s.enterActive).pending = s.pending := by
  unfold State.enterActive; split <;> rfl
@[simp] theorem State.enterActive_sc_address (s : State) : (s.enterActive).sc.address = s.sc.address := by
  unfold State.enterActive; split <;> rfl
@[simp] theorem State.enterActive_sc_role (s : State) : (s.enterActive).sc.role = s.sc.role := by
  unfold State.enterActive; split <;> rfl
@[simp] theorem State.enterActive_sc_available (s : State) : (s.enterActive).sc.available = s.sc.available := by
  unfold State.enterActive; split <;> rfl
@[simp] theorem State.enterActive_sc_state (s : State) : (s.enterActive).sc.state = .active := by
  unfold State.enterActive; split <;> rfl
@[simp] theorem State.enterActive_sc_listenCount (s : State) : (s.enterActive).sc.listenCount = 0 := by
  unfold State.enterActive; split <;> rfl
@[simp] theorem State.enterActive_sc_muteCount (s : State) : (s.enterActive).sc.muteCount = 0 := by
  unfold State.enterActive; split <;> rfl
@[simp] theorem State.enterActive_sc_firstReport (s : State) : (s.enterActive).sc.firstReport = true := by
  unfold State.enterActive; split <;> rfl
@[simp] theorem State.enterActive_fe_record (s : State) : (s.enterActive).fe.record = s.fe.record := by
  unfold State.enterActive; split <;> rfl
@[simp] theorem State.enterActive_fe_speed (s : State) : (s.enterActive).fe.speed = s.fe.speed := by
  unfold State.enterActive; split <;> rfl
@[simp] theorem State.enterActive_fe_integral (s : State) : (s.enterActive).fe.integral = s.fe.integral := by
  unfold State.enterActive; split <;> rfl
@[simp] theorem State.enterActive_fe_atLimit (s : State) : (s.enterActive).fe.atLimit = s.fe.atLimit := by
  unfold State.enterActive; split <;> rfl
@[simp] theorem State.enterActive_fe_holdingCount (s : State) : (s.enterActive).fe.holdingCount = s.fe.holdingCount := by
  unfold State.enterActive; split <;> rfl
@[simp] theorem State.enterActive_fe_request (s : State) : (s.enterActive).fe.request = s.fe.request := by
  unfold State.enterActive; split <;> rfl
@[simp] theorem State.enterActive_fe_cap (s : State) : (s.enterActive).fe.cap = s.fe.cap := by
  unfold State.enterActive; split <;> rfl
@[simp] theorem State.enterActive_fe_lastStarved (s : State) : (s.enterActive).fe.lastStarved = s.fe.lastStarved := by
  unfold State.enterActive; split <;> rfl

/-- Entry into ACTIVE leaves the pump mode but for a plant that comes from LISTEN (R11, R121). -/
theorem State.enterActive_fe_mode (s : State) : s.enterActive.fe.mode =
    if s.sc.state = .listen ∧ s.sc.role = .plant then modeOnActive s.fe.speed s.sc.available s.fe.mode
    else s.fe.mode := by
  unfold State.enterActive
  cases h1 : s.sc.state <;> cases h2 : s.sc.role <;> simp

@[simp] theorem State.countStep_inReset (s : State) : (s.countStep).inReset = s.inReset := by
  unfold State.countStep; split <;> (try split) <;> simp
@[simp] theorem State.countStep_cfg (s : State) : (s.countStep).cfg = s.cfg := by
  unfold State.countStep; split <;> (try split) <;> simp
@[simp] theorem State.countStep_mu (s : State) : (s.countStep).mu = s.mu := by
  unfold State.countStep; split <;> (try split) <;> simp
@[simp] theorem State.countStep_fcu (s : State) : (s.countStep).fcu = s.fcu := by
  unfold State.countStep; split <;> (try split) <;> simp
@[simp] theorem State.countStep_lu (s : State) : (s.countStep).lu = s.lu := by
  unfold State.countStep; split <;> (try split) <;> simp
@[simp] theorem State.countStep_pt (s : State) : (s.countStep).pt = s.pt := by
  unfold State.countStep; split <;> (try split) <;> simp
@[simp] theorem State.countStep_cu (s : State) : (s.countStep).cu = s.cu := by
  unfold State.countStep; split <;> (try split) <;> simp
@[simp] theorem State.countStep_pd (s : State) : (s.countStep).pd = s.pd := by
  unfold State.countStep; split <;> (try split) <;> simp
@[simp] theorem State.countStep_vd (s : State) : (s.countStep).vd = s.vd := by
  unfold State.countStep; split <;> (try split) <;> simp
@[simp] theorem State.countStep_sp (s : State) : (s.countStep).sp = s.sp := by
  unfold State.countStep; split <;> (try split) <;> simp
@[simp] theorem State.countStep_ties (s : State) : (s.countStep).ties = s.ties := by
  unfold State.countStep; split <;> (try split) <;> simp
@[simp] theorem State.countStep_pending (s : State) : (s.countStep).pending = s.pending := by
  unfold State.countStep; split <;> (try split) <;> simp
@[simp] theorem State.countStep_sc_address (s : State) : (s.countStep).sc.address = s.sc.address := by
  unfold State.countStep; split <;> (try split) <;> simp
@[simp] theorem State.countStep_sc_role (s : State) : (s.countStep).sc.role = s.sc.role := by
  unfold State.countStep; split <;> (try split) <;> simp
@[simp] theorem State.countStep_sc_available (s : State) : (s.countStep).sc.available = s.sc.available := by
  unfold State.countStep; split <;> (try split) <;> simp
@[simp] theorem State.countStep_fe_record (s : State) : (s.countStep).fe.record = s.fe.record := by
  unfold State.countStep; split <;> (try split) <;> simp
@[simp] theorem State.countStep_fe_speed (s : State) : (s.countStep).fe.speed = s.fe.speed := by
  unfold State.countStep; split <;> (try split) <;> simp
@[simp] theorem State.countStep_fe_integral (s : State) : (s.countStep).fe.integral = s.fe.integral := by
  unfold State.countStep; split <;> (try split) <;> simp
@[simp] theorem State.countStep_fe_atLimit (s : State) : (s.countStep).fe.atLimit = s.fe.atLimit := by
  unfold State.countStep; split <;> (try split) <;> simp
@[simp] theorem State.countStep_fe_holdingCount (s : State) : (s.countStep).fe.holdingCount = s.fe.holdingCount := by
  unfold State.countStep; split <;> (try split) <;> simp
@[simp] theorem State.countStep_fe_request (s : State) : (s.countStep).fe.request = s.fe.request := by
  unfold State.countStep; split <;> (try split) <;> simp
@[simp] theorem State.countStep_fe_cap (s : State) : (s.countStep).fe.cap = s.fe.cap := by
  unfold State.countStep; split <;> (try split) <;> simp
@[simp] theorem State.countStep_fe_lastStarved (s : State) : (s.countStep).fe.lastStarved = s.fe.lastStarved := by
  unfold State.countStep; split <;> (try split) <;> simp

/-- What the count step does to the Station Controller (R10, R11, R13). -/
theorem State.countStep_sc (s : State) : s.countStep.sc =
    match s.sc.state with
    | .active | .quiet | .config => s.sc
    | .listen =>
      if s.sc.listenCount ≤ 1 then
        { s.sc with state := .active, listenCount := 0, muteCount := 0, firstReport := true }
      else { s.sc with listenCount := s.sc.listenCount - 1 }
    | .muted =>
      if s.sc.muteCount ≤ 1 then
        { s.sc with state := .active, listenCount := 0, muteCount := 0, firstReport := true }
      else { s.sc with muteCount := s.sc.muteCount - 1 } := by
  cases h : s.sc.state
  case listen =>
    by_cases hl : s.sc.listenCount ≤ 1
    · simp only [State.countStep, h, hl, if_true]
      apply StationController.ext <;> simp
    · simp [State.countStep, h, hl]
  case muted =>
    by_cases hl : s.sc.muteCount ≤ 1
    · simp only [State.countStep, h, hl, if_true]
      apply StationController.ext <;> simp
    · simp [State.countStep, h, hl]
  all_goals simp [State.countStep, h]

/-- What the count step does to the pump mode (R11, R121). -/
theorem State.countStep_fe_mode (s : State) : s.countStep.fe.mode =
    if s.sc.state = .listen ∧ s.sc.listenCount ≤ 1 ∧ s.sc.role = .plant then
      modeOnActive s.fe.speed s.sc.available s.fe.mode
    else s.fe.mode := by
  cases h : s.sc.state
  case listen => by_cases hl : s.sc.listenCount ≤ 1 <;> simp [State.countStep, h, hl, State.enterActive_fe_mode]
  case muted => by_cases hl : s.sc.muteCount ≤ 1 <;> simp [State.countStep, h, hl, State.enterActive_fe_mode]
  all_goals simp [State.countStep, h]

@[simp] theorem State.openTable_inReset (s : State) : (s.openTable).inReset = s.inReset := by simp [State.openTable]
@[simp] theorem State.openTable_sc (s : State) : (s.openTable).sc = s.sc := by simp [State.openTable]
@[simp] theorem State.openTable_cfg (s : State) : (s.openTable).cfg = s.cfg := by simp [State.openTable]
@[simp] theorem State.openTable_mu (s : State) : (s.openTable).mu = s.mu := by simp [State.openTable]
@[simp] theorem State.openTable_fcu (s : State) : (s.openTable).fcu = s.fcu := by simp [State.openTable]
@[simp] theorem State.openTable_lu (s : State) : (s.openTable).lu = s.lu := by simp [State.openTable]
@[simp] theorem State.openTable_fe (s : State) : (s.openTable).fe = s.fe := by simp [State.openTable]
@[simp] theorem State.openTable_pd (s : State) : (s.openTable).pd = s.pd := by simp [State.openTable]
@[simp] theorem State.openTable_vd (s : State) : (s.openTable).vd = s.vd := by simp [State.openTable]
@[simp] theorem State.openTable_ties (s : State) : (s.openTable).ties = s.ties := by simp [State.openTable]
@[simp] theorem State.openTable_pending (s : State) : (s.openTable).pending = s.pending := by simp [State.openTable]
@[simp] theorem State.openTable_pt_queue (s : State) : (s.openTable).pt.queue = [] := by simp [State.openTable]
@[simp] theorem State.openTable_cu_state (s : State) : (s.openTable).cu.state = .opened := by simp [State.openTable]
@[simp] theorem State.openTable_cu_timer (s : State) : (s.openTable).cu.timer = s.cu.timer := by simp [State.openTable]
@[simp] theorem State.openTable_sp_response (s : State) : (s.openTable).sp.response = s.sp.response := by simp [State.openTable]
@[simp] theorem State.openTable_sp_select (s : State) : (s.openTable).sp.select = s.sp.select := by simp [State.openTable]
@[simp] theorem State.openTable_sp_ssnHigh (s : State) : (s.openTable).sp.ssnHigh = s.sp.ssnHigh := by simp [State.openTable]

/-- The entries a frame leaves depend on the entries alone. -/
theorem State.applyFrame_entries_congr {s t : State} (h : s.pt.entries = t.pt.entries) (f : Frame) :
    (s.applyFrame f).pt.entries = (t.applyFrame f).pt.entries := by
  cases f with
  | report r =>
    simp only [State.applyFrame, State.applyReport, PeerTable.find, h]
    split
    · rfl
    · split
      · rfl
      · split
        · rfl
        · next e _ _ _ =>
          by_cases h1 : (r.sequence - e.lastSequence).toNat = 0
          · simp only [h1, if_true]; exact h
          · by_cases h2 : (r.sequence - e.lastSequence).toNat ≤ 127
            · simp only [h1, h2, if_true, if_false]; rfl
            · simp only [h1, h2, if_false]; exact h
  | notice n =>
    have e : s.pt.find n.source = t.pt.find n.source := by simp [PeerTable.find, h]
    simp only [State.applyFrame, State.applyNotice, e]
    by_cases h1 : (t.pt.find n.source).isSome = true <;> simp [h1, h]

/-- The entries that a run of frames leaves depend on the entries alone. -/
theorem State.foldl_applyFrame_entries_congr (q : List Frame) {s t : State} (h : s.pt.entries = t.pt.entries) :
    (q.foldl State.applyFrame s).pt.entries = (q.foldl State.applyFrame t).pt.entries := by
  induction q generalizing s t with
  | nil => exact h
  | cons f q ih => exact ih (State.applyFrame_entries_congr h f)

/-- The latches that a run of frames sets depend on the entries alone, and come on top of those already set. -/
theorem State.foldl_applyFrame_latched (q : List Frame) {s t : State} (h : s.pt.entries = t.pt.entries) {x : Latch}
    {b : Bool} (hb : s.latched x = (t.latched x || b)) :
    (q.foldl State.applyFrame s).latched x = ((q.foldl State.applyFrame t).latched x || b) := by
  induction q generalizing s t with
  | nil => exact hb
  | cons f q ih =>
    refine ih (State.applyFrame_entries_congr h f) ?_
    obtain ⟨es, c, d, j, hf⟩ := State.applyFrame_shape t.pt.entries f
    rw [hf s h, hf t rfl]
    simp only [State.latched_bumpIf, State.latched_setLatchIf, State.withEntries_latched, hb, Bool.or_assoc, Bool.or_comm b]

/-- The counters that a run of frames steps depend on the entries alone. -/
theorem State.foldl_applyFrame_count (q : List Frame) {s t : State} (h : s.pt.entries = t.pt.entries) {k : Counter}
    (hk : s.count k = t.count k) : (q.foldl State.applyFrame s).count k = (q.foldl State.applyFrame t).count k := by
  induction q generalizing s t with
  | nil => exact hk
  | cons f q ih =>
    refine ih (State.applyFrame_entries_congr h f) ?_
    obtain ⟨es, c, d, j, hf⟩ := State.applyFrame_shape t.pt.entries f
    rw [hf s h, hf t rfl]
    simp only [State.count_bumpIf, State.count_setLatchIf, State.withEntries_count, hk]

/-- A run of frames steps no counter but DUPLICATES and SEQ_REJECTS (R73, R75). -/
theorem State.foldl_applyFrame_count_of_ne (q : List Frame) (s : State) {k : Counter} (h1 : k ≠ .duplicates)
    (h2 : k ≠ .seqRejects) : (q.foldl State.applyFrame s).count k = s.count k :=
  State.foldl_applyFrame_keeps (·.count k) (fun s f => by
    obtain ⟨es, c, d, j, hf⟩ := State.applyFrame_shape s.pt.entries f
    rw [hf s rfl]
    simp [h1, h2]) q s

@[simp] theorem State.commitPlant_inReset (s : State) (t : Taken) (f : Figures) : (s.commitPlant t f).inReset = s.inReset := by
  simp [State.commitPlant]
@[simp] theorem State.commitPlant_cfg (s : State) (t : Taken) (f : Figures) : (s.commitPlant t f).cfg = s.cfg := by
  simp [State.commitPlant]
@[simp] theorem State.commitPlant_mu (s : State) (t : Taken) (f : Figures) : (s.commitPlant t f).mu = s.mu := by
  simp [State.commitPlant]
@[simp] theorem State.commitPlant_fcu (s : State) (t : Taken) (f : Figures) : (s.commitPlant t f).fcu = s.fcu := by
  simp [State.commitPlant]
@[simp] theorem State.commitPlant_pt (s : State) (t : Taken) (f : Figures) : (s.commitPlant t f).pt = s.pt := by
  simp [State.commitPlant]
@[simp] theorem State.commitPlant_cu (s : State) (t : Taken) (f : Figures) : (s.commitPlant t f).cu = s.cu := by
  simp [State.commitPlant]
@[simp] theorem State.commitPlant_vd (s : State) (t : Taken) (f : Figures) : (s.commitPlant t f).vd = s.vd := by
  simp [State.commitPlant]
@[simp] theorem State.commitPlant_ties (s : State) (t : Taken) (f : Figures) : (s.commitPlant t f).ties = s.ties := by
  simp [State.commitPlant]
@[simp] theorem State.commitPlant_pending (s : State) (t : Taken) (f : Figures) : (s.commitPlant t f).pending = s.pending := by
  simp [State.commitPlant]
@[simp] theorem State.commitPlant_sc_address (s : State) (t : Taken) (f : Figures) : (s.commitPlant t f).sc.address = s.sc.address := by
  simp [State.commitPlant]
@[simp] theorem State.commitPlant_sc_role (s : State) (t : Taken) (f : Figures) : (s.commitPlant t f).sc.role = s.sc.role := by
  simp [State.commitPlant]
@[simp] theorem State.commitPlant_sc_state (s : State) (t : Taken) (f : Figures) : (s.commitPlant t f).sc.state = s.sc.state := by
  simp [State.commitPlant]
@[simp] theorem State.commitPlant_sc_listenCount (s : State) (t : Taken) (f : Figures) : (s.commitPlant t f).sc.listenCount = s.sc.listenCount := by
  simp [State.commitPlant]
@[simp] theorem State.commitPlant_sc_muteCount (s : State) (t : Taken) (f : Figures) : (s.commitPlant t f).sc.muteCount = s.sc.muteCount := by
  simp [State.commitPlant]
@[simp] theorem State.commitPlant_sc_available (s : State) (t : Taken) (f : Figures) : (s.commitPlant t f).sc.available = s.sc.available := by
  simp [State.commitPlant]
@[simp] theorem State.commitPlant_lu_noticeSlot (s : State) (t : Taken) (f : Figures) : (s.commitPlant t f).lu.noticeSlot = s.lu.noticeSlot := by
  simp [State.commitPlant]
@[simp] theorem State.commitPlant_lu_receiver (s : State) (t : Taken) (f : Figures) : (s.commitPlant t f).lu.receiver = s.lu.receiver := by
  simp [State.commitPlant]
@[simp] theorem State.commitPlant_lu_quiet (s : State) (t : Taken) (f : Figures) : (s.commitPlant t f).lu.quiet = s.lu.quiet := by
  simp [State.commitPlant]
@[simp] theorem State.commitPlant_lu_beganSending (s : State) (t : Taken) (f : Figures) : (s.commitPlant t f).lu.beganSending = s.lu.beganSending := by
  simp [State.commitPlant]
@[simp] theorem State.commitPlant_sp_latches (s : State) (t : Taken) (f : Figures) : (s.commitPlant t f).sp.latches = s.sp.latches := by
  simp [State.commitPlant]
@[simp] theorem State.commitPlant_sp_response (s : State) (t : Taken) (f : Figures) : (s.commitPlant t f).sp.response = s.sp.response := by
  simp [State.commitPlant]
@[simp] theorem State.commitPlant_sp_select (s : State) (t : Taken) (f : Figures) : (s.commitPlant t f).sp.select = s.sp.select := by
  simp [State.commitPlant]
@[simp] theorem State.commitPlant_sp_ssnHigh (s : State) (t : Taken) (f : Figures) : (s.commitPlant t f).sp.ssnHigh = s.sp.ssnHigh := by
  simp [State.commitPlant]
@[simp] theorem State.commitPlant_fe_request (s : State) (t : Taken) (f : Figures) : (s.commitPlant t f).fe.request = s.fe.request := by
  simp [State.commitPlant]
@[simp] theorem State.commitPlant_fe_cap (s : State) (t : Taken) (f : Figures) : (s.commitPlant t f).fe.cap = s.fe.cap := by
  simp [State.commitPlant]
@[simp] theorem State.commitPlant_fe_lastStarved (s : State) (t : Taken) (f : Figures) : (s.commitPlant t f).fe.lastStarved = s.fe.lastStarved := by
  simp [State.commitPlant]

@[simp] theorem State.commitCustomer_inReset (s : State) (t : Taken) (f : Figures) : (s.commitCustomer t f).inReset = s.inReset := by
  simp [State.commitCustomer]
@[simp] theorem State.commitCustomer_cfg (s : State) (t : Taken) (f : Figures) : (s.commitCustomer t f).cfg = s.cfg := by
  simp [State.commitCustomer]
@[simp] theorem State.commitCustomer_mu (s : State) (t : Taken) (f : Figures) : (s.commitCustomer t f).mu = s.mu := by
  simp [State.commitCustomer]
@[simp] theorem State.commitCustomer_fcu (s : State) (t : Taken) (f : Figures) : (s.commitCustomer t f).fcu = s.fcu := by
  simp [State.commitCustomer]
@[simp] theorem State.commitCustomer_pt (s : State) (t : Taken) (f : Figures) : (s.commitCustomer t f).pt = s.pt := by
  simp [State.commitCustomer]
@[simp] theorem State.commitCustomer_cu (s : State) (t : Taken) (f : Figures) : (s.commitCustomer t f).cu = s.cu := by
  simp [State.commitCustomer]
@[simp] theorem State.commitCustomer_pd (s : State) (t : Taken) (f : Figures) : (s.commitCustomer t f).pd = s.pd := by
  simp [State.commitCustomer]
@[simp] theorem State.commitCustomer_ties (s : State) (t : Taken) (f : Figures) : (s.commitCustomer t f).ties = s.ties := by
  simp [State.commitCustomer]
@[simp] theorem State.commitCustomer_pending (s : State) (t : Taken) (f : Figures) : (s.commitCustomer t f).pending = s.pending := by
  simp [State.commitCustomer]
@[simp] theorem State.commitCustomer_sc_address (s : State) (t : Taken) (f : Figures) : (s.commitCustomer t f).sc.address = s.sc.address := by
  simp [State.commitCustomer]
@[simp] theorem State.commitCustomer_sc_role (s : State) (t : Taken) (f : Figures) : (s.commitCustomer t f).sc.role = s.sc.role := by
  simp [State.commitCustomer]
@[simp] theorem State.commitCustomer_sc_state (s : State) (t : Taken) (f : Figures) : (s.commitCustomer t f).sc.state = s.sc.state := by
  simp [State.commitCustomer]
@[simp] theorem State.commitCustomer_sc_listenCount (s : State) (t : Taken) (f : Figures) : (s.commitCustomer t f).sc.listenCount = s.sc.listenCount := by
  simp [State.commitCustomer]
@[simp] theorem State.commitCustomer_sc_muteCount (s : State) (t : Taken) (f : Figures) : (s.commitCustomer t f).sc.muteCount = s.sc.muteCount := by
  simp [State.commitCustomer]
@[simp] theorem State.commitCustomer_sc_available (s : State) (t : Taken) (f : Figures) : (s.commitCustomer t f).sc.available = s.sc.available := by
  simp [State.commitCustomer]
@[simp] theorem State.commitCustomer_lu_noticeSlot (s : State) (t : Taken) (f : Figures) : (s.commitCustomer t f).lu.noticeSlot = s.lu.noticeSlot := by
  simp [State.commitCustomer]
@[simp] theorem State.commitCustomer_lu_receiver (s : State) (t : Taken) (f : Figures) : (s.commitCustomer t f).lu.receiver = s.lu.receiver := by
  simp [State.commitCustomer]
@[simp] theorem State.commitCustomer_lu_quiet (s : State) (t : Taken) (f : Figures) : (s.commitCustomer t f).lu.quiet = s.lu.quiet := by
  simp [State.commitCustomer]
@[simp] theorem State.commitCustomer_lu_beganSending (s : State) (t : Taken) (f : Figures) : (s.commitCustomer t f).lu.beganSending = s.lu.beganSending := by
  simp [State.commitCustomer]
@[simp] theorem State.commitCustomer_sp_latches (s : State) (t : Taken) (f : Figures) : (s.commitCustomer t f).sp.latches = s.sp.latches := by
  simp [State.commitCustomer]
@[simp] theorem State.commitCustomer_sp_response (s : State) (t : Taken) (f : Figures) : (s.commitCustomer t f).sp.response = s.sp.response := by
  simp [State.commitCustomer]
@[simp] theorem State.commitCustomer_sp_select (s : State) (t : Taken) (f : Figures) : (s.commitCustomer t f).sp.select = s.sp.select := by
  simp [State.commitCustomer]
@[simp] theorem State.commitCustomer_sp_ssnHigh (s : State) (t : Taken) (f : Figures) : (s.commitCustomer t f).sp.ssnHigh = s.sp.ssnHigh := by
  simp [State.commitCustomer]
@[simp] theorem State.commitCustomer_fe_request (s : State) (t : Taken) (f : Figures) : (s.commitCustomer t f).fe.request = s.fe.request := by
  simp [State.commitCustomer]
@[simp] theorem State.commitCustomer_fe_mode (s : State) (t : Taken) (f : Figures) : (s.commitCustomer t f).fe.mode = s.fe.mode := by
  simp [State.commitCustomer]
@[simp] theorem State.commitCustomer_fe_speed (s : State) (t : Taken) (f : Figures) : (s.commitCustomer t f).fe.speed = s.fe.speed := by
  simp [State.commitCustomer]
@[simp] theorem State.commitCustomer_fe_integral (s : State) (t : Taken) (f : Figures) : (s.commitCustomer t f).fe.integral = s.fe.integral := by
  simp [State.commitCustomer]
@[simp] theorem State.commitCustomer_fe_atLimit (s : State) (t : Taken) (f : Figures) : (s.commitCustomer t f).fe.atLimit = s.fe.atLimit := by
  simp [State.commitCustomer]
@[simp] theorem State.commitCustomer_fe_holdingCount (s : State) (t : Taken) (f : Figures) : (s.commitCustomer t f).fe.holdingCount = s.fe.holdingCount := by
  simp [State.commitCustomer]
@[simp] theorem State.commitCustomer_fe_lastStarved (s : State) (t : Taken) (f : Figures) : (s.commitCustomer t f).fe.lastStarved = s.fe.lastStarved := by
  simp [State.commitCustomer]

end Sys2Proof.Machine
end

