-- ==== Sys2Proof/Laws/Measure.lean ====
section
/-! SUPPORT. What the steps of a flow capture do (R32 to R36). -/

namespace Sys2Proof.Machine

/-- After the clock periods until a value, the capture counter reads it. -/
theorem FlowCaptureUnit.pass_clocksUntil_counter (v : Word32) {f : FlowCaptureUnit} (h : f.fraction < 8) :
    (f.pass (f.clocksUntil v)).counter = v := by
  simp only [FlowCaptureUnit.pass, FlowCaptureUnit.clocksUntil, FlowCaptureUnit.microsUntil, usClocks]
  have e : (f.fraction + ((v - f.counter).toNat * 8 - f.fraction)) / 8 = (v - f.counter).toNat := by omega
  rw [e, BitVec.ofNat_toNat, BitVec.setWidth_eq, BitVec.add_comm, BitVec.sub_add_cancel]

/-- Two high samples against a low accepted level accept the high level (R33). -/
theorem FlowCaptureUnit.sample_high_twice {f : FlowCaptureUnit} (h : f.accepted = false) :
    ((f.sample true).1.sample true).1 = { f with accepted := true, previous := true } := by
  cases hp : f.previous <;> simp [FlowCaptureUnit.sample, h, hp]

/-- Two low samples leave the low level accepted (R33). -/
theorem FlowCaptureUnit.sample_low_twice (f : FlowCaptureUnit) :
    ((f.sample false).1.sample false).1 = { f with accepted := false, previous := false } := by
  cases hp : f.previous <;> cases ha : f.accepted <;> simp [FlowCaptureUnit.sample, ha, hp]

@[simp] theorem State.flowTimeoutIf_false (s : State) : s.flowTimeoutIf false = s := by simp [State.flowTimeoutIf]

/-- With the seen-edge flag set a timeout that has come is taken (R36). -/
theorem State.flowTimeoutIf_true {s : State} (h : s.fcu.seenEdge = true) :
    s.flowTimeoutIf true = { s with fcu := s.fcu.timedOut } := by simp [State.flowTimeoutIf, h]

/-- With the flag clear there is none (R36). -/
theorem State.flowTimeoutIf_of_unseen {s : State} (h : s.fcu.seenEdge = false) (late : Bool) : s.flowTimeoutIf late = s := by
  simp [State.flowTimeoutIf, h]

end Sys2Proof.Machine
end

