-- ==== Sys2Proof/Laws/Port.lean ====
section
/-! SUPPORT. What an event and the end of a select period can do: one lemma for each case, cited in place of
unfolding. -/

namespace Sys2Proof.Machine

/-! ### Events -/

/-- Out of hard reset an event takes place. -/
theorem State.event_of_running {s : State} (h : s.inReset = false) (f : State → State) :
    s.event f = .next (f s) := by simp [State.event, h]

/-- In hard reset no event takes place (R7). -/
theorem State.event_of_reset {s : State} (h : s.inReset = true) (f : State → State) : s.event f = .next s := by
  simp [State.event, h]

/-- A row that names an outcome is its event or nothing. -/
theorem State.whenOutcome_cases (event : State → State) (outcome : State → State → Bool) (s : State) :
    s.whenOutcome event outcome = event s ∧ outcome s (event s) = true ∨
    s.whenOutcome event outcome = s ∧ outcome s (event s) = false := by
  unfold State.whenOutcome
  cases h : outcome s (event s) <;> simp

theorem State.whenOutcome_of_true {event : State → State} {outcome : State → State → Bool} {s : State}
    (h : outcome s (event s) = true) : s.whenOutcome event outcome = event s := by simp [State.whenOutcome, h]

/-! ### The end of a select period -/

/-- In a select period the command is taken (R168). -/
theorem State.portCommand_of_selected {s : State} (h : s.sp.select.isSome = true) (f : State → Reply) :
    s.portCommand f = s.taking f := by simp [State.portCommand, h]

/-- With no select period in progress nothing is taken (R178). -/
theorem State.portCommand_of_none {s : State} (h : s.sp.select = none) (f : State → Reply) :
    s.portCommand f = s.deselect := by simp [State.portCommand, h]

/-- A command turned away has no effect but its answer (R170). -/
theorem State.taking_of_turnedAway {s : State} {f : State → Reply} {st : Status} (h : f s = turnedAway st s) :
    s.taking f = s.answered st [] := by simp only [State.taking, h]; rfl

/-- A command that leaves the state as it is has no effect but its answer. -/
theorem State.taking_of_read {s : State} {f : State → Reply} {st : Status} {data : List Byte}
    (h : f s = (⟨st, data⟩, s)) : s.taking f = s.answered st data := by simp only [State.taking, h]; rfl

/-- A command that is done without data leaves its state with the answer DONE. -/
theorem State.taking_of_ok {s t : State} {f : State → Reply} (h : f s = (.ok, t)) :
    s.taking f = t.answered .done [] := by simp only [State.taking, h]; rfl

/-! ### The role and state tests (R168) -/

theorem boundTo_of_role {r : Role} {s : State} (h : s.sc.role = r) (f : State → Reply) : boundTo r f s = f s := by
  simp [boundTo, h]

theorem boundTo_of_ne {r : Role} {s : State} (h : s.sc.role ≠ r) (f : State → Reply) :
    boundTo r f s = turnedAway .role s := by simp [boundTo, h]

theorem takenIn_of_mem {xs : List StationState} {s : State} (h : s.sc.state ∈ xs) (f : State → Reply) :
    takenIn xs f s = f s := by simp [takenIn, h]

theorem takenIn_of_not_mem {xs : List StationState} {s : State} (h : s.sc.state ∉ xs) (f : State → Reply) :
    takenIn xs f s = turnedAway .state s := by simp [takenIn, h]

/-- Every state but CONFIG is a running one (Table 1.3). -/
@[simp] theorem mem_runningStates {x : StationState} : x ∈ runningStates ↔ x ≠ .config := by
  cases x <;> simp [runningStates]

end Sys2Proof.Machine
end

