-- ==== Sys2Proof/Laws/Records.lean ====
section
/-! SUPPORT. What the bytes of a record give back: a quantity of two or four bytes its value modulo its width, and a
flags byte its flags. -/

namespace Sys2Proof.Machine

/-- The two bytes of a 16-bit quantity give it back modulo 65536. -/
theorem be16_value (x : Int) : ∃ h l : Byte, be16 x = [h, l] ∧ ((256 * h.toNat + l.toNat : Nat) : Int) = x % 65536 := by
  refine ⟨_, _, rfl, ?_⟩
  simp only [BitVec.extractLsb'_toNat, Nat.shiftRight_eq_div_pow, BitVec.toNat_ofInt]
  omega

/-- The four bytes of a 32-bit quantity give it back modulo 2^32. -/
theorem be32_value (n : Nat) : ∃ a b c d : Byte, be32 n = [a, b, c, d] ∧
    256 * (256 * (256 * a.toNat + b.toNat) + c.toNat) + d.toNat = n % 4294967296 := by
  refine ⟨_, _, _, _, rfl, ?_⟩
  simp only [BitVec.extractLsb'_toNat, Nat.shiftRight_eq_div_pow, BitVec.toNat_ofNat]
  omega

/-- Bit k of a flags byte is flag k, and the bits above the flags are clear. -/
theorem flagByte_getLsbD (bs : List Bool) (h : bs.length ≤ 8) (k : Nat) (hk : k < 8) :
    (flagByte bs).getLsbD k = bs.getD k false := by
  induction bs generalizing k with
  | nil => simp [flagByte]
  | cons b bs ih =>
    simp only [List.length_cons] at h
    cases k with
    | zero => cases b <;> simp [flagByte]
    | succ k =>
      have := ih (by omega) k (by omega)
      cases b <;> simp [flagByte] <;> rw [this] <;> simp [hk]

end Sys2Proof.Machine
end

