-- ==== Sys2Proof/Laws/Valve.lean ====
section
/-! SUPPORT. The Valve Drive: what bringing the estimate up to date, ending a pulse, and starting or waiting do, once. -/

namespace Sys2Proof.Machine

@[simp] theorem ValveDrive.pulse_pulsing (e : Option Nat) (p : Pulse) (g : Option Nat) (l : LastEnd) (t : Nat) :
    (⟨e, .pulsing p, g, l, t⟩ : ValveDrive).pulse = some p := rfl

@[simp] theorem ValveDrive.pulse_idle (e g : Option Nat) (l : LastEnd) (t : Nat) :
    (⟨e, .idle, g, l, t⟩ : ValveDrive).pulse = none := rfl

@[simp] theorem ValveDrive.pulse_dwelling (e g : Option Nat) (w : Option Demand) (l : LastEnd) (t : Nat) :
    (⟨e, .dwelling w, g, l, t⟩ : ValveDrive).pulse = none := rfl

theorem ValveDrive.pulse_eq_some {v : ValveDrive} {p : Pulse} : v.pulse = some p ↔ v.drive = .pulsing p := by
  unfold ValveDrive.pulse; cases v.drive <;> simp

/-- A pulse is driven in a direction exactly while one of that direction is in flight (R152). -/
theorem ValveDrive.drives_iff {v : ValveDrive} {d : Direction} :
    v.drives d = true ↔ ∃ p, v.drive = .pulsing p ∧ p.direction = d := by
  unfold ValveDrive.drives; cases v.drive <;> simp

theorem ValveDrive.not_both_driven (v : ValveDrive) : ¬(v.drives .opening = true ∧ v.drives .closing = true) := by
  simp only [ValveDrive.drives_iff]
  rintro ⟨⟨p, hp, h1⟩, ⟨q, hq, h2⟩⟩
  rw [hp] at hq
  cases hq
  rw [h1] at h2
  cases h2

/-! ### The estimate (R153) -/

theorem moved_le {d : Direction} {e : Nat} (h : e ≤ 10000) (m : Nat) : moved d e m ≤ 10000 := by
  cases d <;> simp [moved] <;> omega

theorem Pulse.reckon_le {p : Pulse} (h : ∀ e ∈ p.start, e ≤ 10000) (cfg : ConfigSet) (ms : Nat) :
    ∀ e ∈ p.reckon cfg ms, e ≤ 10000 := by
  intro e he
  simp only [Pulse.reckon, Option.mem_def, Option.map_eq_some_iff] at he
  obtain ⟨e0, h0, rfl⟩ := he
  exact moved_le (h e0 h0) _

/-- Bringing the estimate up to date moves it alone. -/
theorem ValveDrive.upToDate_eq (cfg : ConfigSet) (v : ValveDrive) :
    v.upToDate cfg = { v with estimate := match v.drive with
      | .pulsing p => p.reckon cfg p.ms
      | .idle => v.estimate
      | .dwelling _ => v.estimate } := by
  unfold ValveDrive.upToDate; cases v with
  | mk e d g l t => cases d <;> rfl

@[simp] theorem ValveDrive.upToDate_drive (cfg : ConfigSet) (v : ValveDrive) : (v.upToDate cfg).drive = v.drive := by
  rw [ValveDrive.upToDate_eq]
@[simp] theorem ValveDrive.upToDate_pending (cfg : ConfigSet) (v : ValveDrive) :
    (v.upToDate cfg).pending = v.pending := by rw [ValveDrive.upToDate_eq]
@[simp] theorem ValveDrive.upToDate_lastEnd (cfg : ConfigSet) (v : ValveDrive) :
    (v.upToDate cfg).lastEnd = v.lastEnd := by rw [ValveDrive.upToDate_eq]
@[simp] theorem ValveDrive.upToDate_dwellTimer (cfg : ConfigSet) (v : ValveDrive) :
    (v.upToDate cfg).dwellTimer = v.dwellTimer := by rw [ValveDrive.upToDate_eq]

/-! ### Ends (R154) -/

@[simp] theorem ValveDrive.endAny_estimate (v : ValveDrive) : v.endAny.estimate = v.estimate := by
  unfold ValveDrive.endAny; split <;> rfl
@[simp] theorem ValveDrive.endAny_pending (v : ValveDrive) : v.endAny.pending = v.pending := by
  unfold ValveDrive.endAny; split <;> rfl

/-- A pulse in flight that is ended leaves IDLE, its own direction as the last end and the dwell timer at 0. -/
theorem ValveDrive.endAny_of_pulsing {v : ValveDrive} {p : Pulse} (h : v.drive = .pulsing p) :
    v.endAny = ⟨v.estimate, .idle, v.pending, p.direction.asEnd, 0⟩ := by
  unfold ValveDrive.endAny; rw [h]; rfl

/-- With no pulse in flight there is nothing to end. -/
theorem ValveDrive.endAny_of_not_pulsing {v : ValveDrive} (h : ∀ p, v.drive ≠ .pulsing p) : v.endAny = v := by
  unfold ValveDrive.endAny; split <;> simp_all

theorem ValveDrive.upToDate_of_not_pulsing {v : ValveDrive} (h : ∀ p, v.drive ≠ .pulsing p) (cfg : ConfigSet) :
    v.upToDate cfg = v := by
  unfold ValveDrive.upToDate; split <;> simp_all

/-! ### Starting (R154) -/

/-- A demanded pulse starts where it is permitted, and waits in DWELL where it is not. -/
theorem ValveDrive.beginOrWait_eq (cfg : ConfigSet) (w : Demand) (v : ValveDrive) :
    v.beginOrWait cfg w = { v with drive :=
      if v.lastEnd = w.direction.asEnd ∨ cfg.dwell * msClocks ≤ v.dwellTimer then
        (.pulsing ⟨w.direction, w.kind, v.estimate, 0, w.length⟩) else .dwelling (some w) } := by
  unfold ValveDrive.beginOrWait
  by_cases h : v.permits cfg w.direction = true
  · rw [if_pos h, if_pos (by simpa [ValveDrive.permits, ValveDrive.dwellReached] using h)]; rfl
  · rw [if_neg h, if_neg (by simpa [ValveDrive.permits, ValveDrive.dwellReached] using h)]

@[simp] theorem ValveDrive.beginOrWait_estimate (cfg : ConfigSet) (w : Demand) (v : ValveDrive) :
    (v.beginOrWait cfg w).estimate = v.estimate := by rw [ValveDrive.beginOrWait_eq]
@[simp] theorem ValveDrive.beginOrWait_pending (cfg : ConfigSet) (w : Demand) (v : ValveDrive) :
    (v.beginOrWait cfg w).pending = v.pending := by rw [ValveDrive.beginOrWait_eq]
@[simp] theorem ValveDrive.beginOrWait_lastEnd (cfg : ConfigSet) (w : Demand) (v : ValveDrive) :
    (v.beginOrWait cfg w).lastEnd = v.lastEnd := by rw [ValveDrive.beginOrWait_eq]
@[simp] theorem ValveDrive.beginOrWait_dwellTimer (cfg : ConfigSet) (w : Demand) (v : ValveDrive) :
    (v.beginOrWait cfg w).dwellTimer = v.dwellTimer := by rw [ValveDrive.beginOrWait_eq]

/-- A pulse that starts takes its start estimate from the estimate. -/
theorem ValveDrive.beginOrWait_pulse {cfg : ConfigSet} {w : Demand} {v : ValveDrive} {p : Pulse}
    (h : (v.beginOrWait cfg w).pulse = some p) : p.start = v.estimate ∧ p.direction = w.direction ∧
      (v.lastEnd = w.direction.asEnd ∨ cfg.dwell * msClocks ≤ v.dwellTimer) := by
  rw [ValveDrive.beginOrWait_eq, ValveDrive.pulse_eq_some] at h
  dsimp only at h
  split at h
  · cases h; exact ⟨rfl, rfl, ‹_›⟩
  · cases h

end Sys2Proof.Machine
end

