-- ==== Sys2Proof/Tests/Slice0.lean ====
section
/-! SUPPORT. Tests. The expected values of the tests test_… come from the manual (each cites its place); the theorems
witness_… give, for each statement with hypotheses, concrete states and operands that meet them, clause by clause. -/

namespace Sys2Proof.Tests

open Sys2Proof Sys2Proof.Machine

/-! ### Small states -/

/-- Station 1, a customer just out of hard reset, with a select period in progress. -/
def fresh : State :=
  { State.reset with inReset := false, sp := ⟨⟨.done, []⟩, 0, Counters.zero, some [], false⟩ }

/-- Station 9, a customer in a station state, its cycle timer running and its valve idle at 77.50 %. -/
def customer (x : StationState) : State :=
  { fresh with
    sc := ⟨9, .customer, x, 1, 1, true, false⟩
    lu.receiver := .hunt
    cu := ⟨some 0, .opened⟩
    vd := ⟨some 7750, .idle, none, .closing, 4000000⟩ }

/-- Station 1, a plant in a station state, running at 50.00 %. -/
def plant (x : StationState) : State :=
  { customer x with
    sc := ⟨1, .plant, x, 1, 1, true, true⟩
    fe.mode := .run
    fe.speed := 5000
    fe.integral := 5000
    pd.command := 5000
    vd := State.reset.vd }

def noFlags : ReportFlags := ⟨false, false, false, false, false, false, false⟩

/-- A customer's report, with a margin. -/
def custReport (source : Nat) (sequence : Byte) (margin : Int) : Report :=
  ⟨source, .customer, sequence, noFlags, 5000, some margin, none, none, none, none⟩

/-- A plant's report, AVAILABLE and at its limit. -/
def plantReport (source : Nat) (sequence : Byte) (flow weight : Nat) : Report :=
  ⟨source, .plant, sequence, { noFlags with available := true, atLimit := true }, 10000, none, some flow, none, none,
    some weight⟩

/-- The report of station 14 in section 3.2. -/
def report14 : Report :=
  ⟨14, .customer, 42, { noFlags with starved := true, yielding := true }, 9450, some (-50), none, some 480, some 9450,
    none⟩

/-- An entry of the table of section 4.2. -/
def entry (r : Report) (age presentFor : Nat) (state : PeerState) : Entry :=
  { Entry.created r with age := age, presentFor := presentFor, state := state }

/-- The next state of a command. -/
def after (c : Instr) (s : State) : State :=
  match exec c s with
  | .next t => t
  | .fault _ => s
  | .refused _ => s

/-- The next state of a step. -/
def stepped (s : State) : State :=
  match step s with
  | .next t => t
  | .fault _ => s
  | .refused _ => s

/-- A state with a computation in progress that took in what stands now. -/
def computing (s : State) : State := { s with cu := ⟨some 0, .calc (s.takeIn s.flowGiven)⟩ }

/-! ### Well-formed commands: each check refuses an ill-formed one -/

theorem test_unknownCommand_refuses_a_command : (Instr.unknownCommand (bitsOf [0x40, 0, 0xC0])).wellFormed = false := by
  decide
theorem test_channelAbsent_refuses_a_valid_code : (Instr.channelAbsent 1 576).wellFormed = false := by decide
theorem test_channelRecovered_refuses_a_fault_code : (Instr.channelRecovered 1 575).wellFormed = false := by decide
theorem test_rxFormatFault_refuses_length_3 : (Instr.rxFormatFault (.length 3)).wellFormed = false := by decide
theorem test_rxFormatFault_refuses_length_16 : (Instr.rxFormatFault (.length 16)).wellFormed = false := by decide
theorem test_entryStale_refuses_address_0 : (Instr.entryStale 0).wellFormed = false := by decide
theorem test_entryRemoved_refuses_address_33 : (Instr.entryRemoved 33).wellFormed = false := by decide
theorem test_wellFormed_accepts : ([.unknownCommand [], .channelAbsent 1 575, .channelRecovered 1 576,
    .rxFormatFault (.length 2), .rxFormatFault (.length 17), .rxFormatFault .framing, .entryStale 1,
    .entryRemoved 32, .hold] : List Instr).all Instr.wellFormed = true := by decide

/-! ### Worked values of the manual -/

/-- R43: the check value of the nine characters 1 to 9 is 0x29B1. -/
theorem test_crc : crc16 [0x31, 0x32, 0x33, 0x34, 0x35, 0x36, 0x37, 0x38, 0x39] = 0x29B1 := by decide +kernel
/-- Section 11.2: the message of HOLD. -/
theorem test_message_hold : encodeCommand .hold = some [0x40, 0x00, 0xC0] := by decide
/-- Section 11.2: the message of SET_REQUEST 97.00 %. -/
theorem test_message_setRequest : encodeCommand (.setRequest 9700) = some [0x20, 0x02, 0x25, 0xE4, 0xD5] := by decide
/-- Section 3.2: the body of station 14's report. -/
theorem test_body_report14 : report14.body =
    [0x0E, 0x12, 0x2A, 0x18, 0x0D, 0x24, 0xEA, 0xFF, 0xCE, 0x01, 0xE0, 0x24, 0xEA] := by decide
/-- That report is received as itself (R51, R52). -/
theorem test_report14_received : checkFrame (Frame.report report14).characters = .good (.report report14) := by
  decide +kernel
/-- Table 3.7: k of station 9's report with sequence 37, attempts 0 to 5. -/
theorem test_gap_counts : (List.range 6).map (fun a => gapK 9 ⟨.report { report14 with sequence := 37 }, a⟩) =
    [14, 3, 8, 13, 2, 7] := by decide
/-- R136: the high times of the PWM period, in clock periods. -/
theorem test_pwm_high_times : [0, 1, 3333, 8500, 10000].map pwmHigh = [0, 0, 267, 680, 800] := by decide

/-! ### One or two steps of each command -/

/-- R7: a hard reset leads to CONFIG from any state, and the outputs are released. -/
theorem test_hardReset : (after .hardReset (plant .active)).sc.state = .config ∧
    (after .hardReset (plant .active)).outB = false ∧ (plant .active).outB = true := by decide
/-- R1: ADDR = 13 is address 14, and ROLE high is a plant. -/
theorem test_endOfHardReset : (after (.endOfHardReset 13 true false true) State.reset).sc =
    { State.reset.sc with address := 14, role := .plant } := by decide
/-- R167: nothing is shifted in at the beginning of a select period, and SDO begins with the DONE response. -/
theorem test_selectPeriodBegin :
    (after .selectPeriodBegin { fresh with sp.select := none, sp.ssnHigh := true }).sdo 30 =
      some (List.replicate 30 false) := by decide
/-- R4, Table 11.7: identifier 0x10 is ch_lo of ch0, signed. -/
theorem test_configure_stores : (after (.configure 0x10 0xFF9C) fresh).cfg.span.c0.lo = -100 := by decide
/-- R4: cycle_period is a multiple of 250. -/
theorem test_configure_refuses : (after (.configure 0x01 1001) fresh).sp.response = ⟨.range, []⟩ := by decide
/-- R9: START leads to LISTEN with the listen count 2. -/
theorem test_start : (after .start fresh).sc = { fresh.sc with state := .listen, listenCount := 2 } := by decide
/-- R6: START refuses speed_min above fallback_speed. -/
theorem test_start_refuses : (after .start { fresh with cfg.speedMin := 7001 }).sp.response.status = .range := by decide
/-- R139: a request above 100.00 % is stored as 10000. -/
theorem test_setRequest : (after (.setRequest 10001) (customer .active)).fe.request = 10000 := by decide
/-- R170: 0 clears the availability. -/
theorem test_setAvailable : (after (.setAvailable 0) (plant .active)).sc.available = false := by decide
/-- R5: a negative target is stored as 0. -/
theorem test_setTarget : (after (.setTarget 0xFFFF) (plant .active)).cfg.mTarget = 0 := by decide
/-- R181: the station record opens with address 9, role 2 and station state ACTIVE. -/
theorem test_readStation : (after .readStation (customer .active)).sp.response.data.take 3 = [9, 2, 2] := by decide
/-- R118: no record is published before the first completion. -/
theorem test_readFigures : (after .readFigures (customer .active)).sp.response = ⟨.done, [0]⟩ := by decide
/-- R83: one item of four bytes for each entry, after the count. -/
theorem test_listPeers : (after .listPeers { customer .active with
    pt.entries := [entry (plantReport 2 44 2600 2) 3 7 .stale] }).sp.response.data = [1, 2, 1, 1, 3] := by decide
/-- R83: an address outside 1..32 is refused. -/
theorem test_readPeer : (after (.readPeer 33) (customer .active)).sp.response.status = .range := by decide
/-- R177: option 1 answers the counters and then clears them. -/
theorem test_readCounters :
    (after (.readCounters 1) { fresh with sp.counters.framesAccepted := 258 }).sp.response.data.take 2 = [1, 2] ∧
    (after (.readCounters 1) { fresh with sp.counters.framesAccepted := 258 }).sp.counters = Counters.zero := by decide
/-- R174: ACK_LATCHES clears the latches of its mask and answers those left. -/
theorem test_ackLatches : (after (.ackLatches 0x81) { fresh with sp.latches := 0x85 }).sp.response.data = [0x04] := by
  decide
/-- R95: HOLD in CALC is answered RETRY. -/
theorem test_hold_in_calc : (after .hold (computing (customer .active))).sp.response.status = .retry := by decide
/-- R96: RELEASE in OPEN is refused with STATE. -/
theorem test_release_in_open : (after .release (customer .active)).sp.response.status = .state := by decide
/-- R162: a seek from 77.50 % goes toward open; the dwell since the last closing pulse is over. -/
theorem test_reseek : (after .reseek (customer .active)).vd.drive =
    .pulsing ⟨.opening, .seek, some 7750, 0, 150000⟩ := by decide
/-- R16: LEAVE from ACTIVE stops the pump and places a notice. -/
theorem test_leave : (after .leave (plant .active)).fe.mode = .stopping ∧
    (after .leave (plant .active)).lu.noticeSlot = some ⟨.notice ⟨1, .plant, 0⟩, 0⟩ := by decide
/-- R18: REJOIN with a known estimate starts no seek. -/
theorem test_rejoin : (after .rejoin (plant .quiet)).fe.mode = .frozen ∧
    (after .rejoin (plant .quiet)).fe.speed = 5000 := by decide
/-- Table 9.4: REJOIN leaves a seek in flight, the last end and the dwell timer unchanged. -/
theorem test_rejoin_seeking : (after .rejoin { customer .quiet with
    vd := ⟨none, .pulsing ⟨.closing, .seek, none, 7000, 150000⟩, some 6000, .both, 7000⟩ }).vd =
      ⟨none, .pulsing ⟨.closing, .seek, none, 7000, 150000⟩, some 6000, .both, 7000⟩ := by decide
/-- R19: RESTART empties the table and sets no latch. -/
theorem test_restart : (after .restart { plant .active with
    pt.entries := [entry (custReport 5 1 20) 0 0 .fresh] }).pt.entries = [] ∧
    (after .restart (plant .active)).sp.latches = 0 := by decide
/-- R168: a command whose sum is not 0 is refused with FORMAT. -/
theorem test_unknownCommand_format : (after (.unknownCommand (bitsOf [0x40, 0, 0xC1])) (customer .active)).sp.response =
    ⟨.format, []⟩ := by decide
/-- R168: a code of no command is refused with UNKNOWN. -/
theorem test_unknownCommand_code : (after (.unknownCommand (bitsOf [0x60, 0, 0xA0])) (customer .active)).sp.response =
    ⟨.unknown, []⟩ := by decide
/-- R22, R25: the first valid code seeds the channel; code 641 of the span 0..16000 gives 6 (Table 2.3). -/
theorem test_conversion_seeds : (after (.conversionCompletion 641) fresh).mu.channels.c0 =
    ⟨some 641, .valid, some 6, 0, 0⟩ := by decide
/-- R22: code 575 is a fault code and 3361 is one. -/
theorem test_conversion_faults :
    (after (.conversionCompletion 575) { fresh with mu.channels.c0 := ⟨none, .valid, some 5, 0, 0⟩ }).mu.channels.c0 =
      ⟨some 575, .faultHold, some 5, 1, 0⟩ ∧
    (after (.conversionCompletion 3361) { fresh with mu.channels.c0 := ⟨none, .valid, some 5, 0, 0⟩ }).mu.channels.c0 =
      ⟨some 3361, .faultHold, some 5, 1, 0⟩ := by decide
/-- R28: the 300th fault code takes the channel to ABSENT and sets SENSOR_ABSENT. -/
theorem test_channelAbsent :
    (after (.channelAbsent 0 12) { fresh with mu.channels.c0 := ⟨none, .faultHold, some 5, 299, 0⟩ }).mu.channels.c0 =
      ⟨some 12, .absent, none, 0, 0⟩ ∧
    (after (.channelAbsent 0 12) { fresh with mu.channels.c0 := ⟨none, .faultHold, some 5, 299, 0⟩ }).attn = true := by
  decide
/-- R29: the tenth valid code returns the channel, seeded anew. -/
theorem test_channelRecovered :
    (after (.channelRecovered 0 640) { fresh with mu.channels.c0 := ⟨none, .absent, none, 0, 9⟩ }).mu.channels.c0 =
      ⟨some 640, .valid, some 0, 0, 0⟩ := by decide
/-- Section 2.7: at 100 L a pulse, a period of 6250 µs is 160.0 L/s; R35: one of 199 µs is noise. -/
theorem test_flowCapture :
    (after (.flowCapture 16250) { fresh with
      cfg.flowVp := 100, fcu.counter := 10000, fcu.lastCapture := some 10000, fcu.seenEdge := true }).fcu.lastFlow = 160 ∧
    (after (.flowCapture 10199) { fresh with
      fcu.counter := 10000, fcu.lastCapture := some 10000, fcu.seenEdge := true }).count .flowNoise = 1 := by decide
/-- R36: a counter value behind the counter is a wrap away, and the timeout of ten seconds has come before it. -/
theorem test_flowCapture_late :
    (after (.flowCapture 2000) { fresh with
      cfg.flowVp := 100, fcu.counter := 5000, fcu.lastCapture := some 1000, fcu.seenEdge := true }).fcu.lastPeriod = none ∧
    (after (.flowCapture 2000) { fresh with
      cfg.flowVp := 100, fcu.counter := 5000, fcu.lastCapture := some 1000, fcu.seenEdge := true }).fcu.lastCapture =
        some 2000 := by decide
/-- R33: two low samples arm the next rising edge. -/
theorem test_flowinLowAccepted :
    (after .flowinLowAccepted { fresh with fcu.accepted := true, fcu.previous := true }).fcu.accepted = false := by decide
/-- R36: the timeout clears the seen-edge flag, ten seconds after the capture. -/
theorem test_flowTimeout : (after .flowTimeout { fresh with fcu.lastCapture := some 0, fcu.seenEdge := true }).fcu =
    { fresh.fcu with counter := 10000000, lastCapture := some 0 } := by decide
/-- R50: an idle line in COLLECT is a fragment. -/
theorem test_quietTimeIdle : (after .quietTimeIdle { customer .active with
    lu.receiver := .collect false [3] }).count .fragments = 1 := by decide
/-- R50: a length of 17 is a format fault. -/
theorem test_rxFormatFault : (after (.rxFormatFault (.length 17)) { customer .active with
    lu.receiver := .collect false [] }).lu.receiver = .discard := by decide
/-- R49, R50: the delimiter starts a collection. -/
theorem test_characterCompleted : (after (.characterCompleted 0xC3) (customer .active)).lu.receiver =
    .collect false [] := by decide
/-- R51, R72: a good report of an unknown source makes an entry. -/
theorem test_frameComplete :
    (after (.frameComplete ((Frame.report report14).characters.getLastD 0)) { customer .active with
      lu.receiver := .collect false (Frame.report report14).characters.dropLast }).pt.entries =
        [Entry.created report14] := by decide +kernel
/-- R53: the station's own frame is dropped uncounted, and the next delimiter, begun when it is over, is not its own. -/
theorem test_frameComplete_own :
    (after (.characterCompleted 0xC3) (after (.frameComplete 0) { customer .active with
      lu.receiver := .collect true (Frame.report report14).characters.dropLast
      lu.transmitter := .sending ⟨.report report14, 0⟩ 0, lu.beganSending := true })) =
        { customer .active with
          lu.receiver := .collect false []
          lu.transmitter := .sending ⟨.report report14, 0⟩ 0, lu.beganSending := true, lu.quiet := 0 } := by decide
/-- R40, R56: a dominant line restarts the access gap with the same k. -/
theorem test_lineBusy : (after .lineBusy { customer .active with lu.transmitter := .waiting .report 8 4000 }).lu.transmitter =
    .waiting .report 8 0 := by decide
/-- R54: the frame leaves its slot as the frame in flight. -/
theorem test_accessGapComplete : (after .accessGapComplete { customer .active with
    lu.transmitter := .waiting .report 8 0, lu.reportSlot := some ⟨.report report14, 2⟩ }).lu.transmitter =
      .sending ⟨.report report14, 2⟩ 0 := by decide
/-- R58: the frame returns to its slot with its attempt count raised. -/
theorem test_collision : (after .collision { customer .active with
    lu.transmitter := .sending ⟨.report report14, 4⟩ 100 }).lu.reportSlot = some ⟨.report report14, 5⟩ := by decide
/-- R58: the sixth failed attempt abandons the frame. -/
theorem test_frameAbandoned : (after .frameAbandoned { customer .active with
    lu.transmitter := .sending ⟨.report report14, 5⟩ 100 }).latched .txAbandoned = true := by decide
/-- R59: after the frame the transmitter is IDLE with both slots empty. -/
theorem test_frameSent : (after .frameSent { customer .active with
    lu.transmitter := .sending ⟨.report report14, 0⟩ 100 }).lu.transmitter = .idle := by decide
/-- R53, Table 3.10: a character that begins after the frame began while the transmitter was not SENDING. -/
theorem test_frameSent_ends_own : (after .frameSent { customer .active with
    lu.transmitter := .sending ⟨.report report14, 0⟩ 100, lu.beganSending := true }).lu.beganSending = false := by decide
/-- R89: a boundary in HELD makes no pass. -/
theorem test_boundary_held : (after .boundary { customer .active with
    cu.state := .held
    pt.entries := [entry (custReport 5 1 20) 0 0 .fresh] }).pt.entries = [entry (custReport 5 1 20) 0 0 .fresh] := by
  decide
/-- R78, R91: a boundary in OPEN ages the table and starts a computation. -/
theorem test_boundary_open : (after .boundary { customer .active with
    pt.entries := [entry (custReport 5 1 20) 0 0 .fresh] }).pt.entries = [entry (custReport 5 1 20) 1 1 .fresh] := by
  decide
/-- R143: the cap falls by the yield step, 220 × 40 / 16 = 550 (section 8.4). -/
theorem test_completion_yields : (after .computationCompletion (computing { customer .active with
    fe.request := 9700
    mu.channels.c2 := ⟨none, .valid, some 0, 0, 0⟩
    mu.channels.c3 := ⟨none, .valid, some 480, 0, 0⟩
    pt.entries := [Entry.created (plantReport 1 1 3400 3), Entry.created (custReport 14 1 (-50))] })).fe.cap = 9450 := by decide
/-- R125: an unavailable plant's completion starts the stop sequence: 50.00 % falls by ramp. -/
theorem test_completion_stops : (after .computationCompletion (computing { plant .active with
    sc.available := false })).fe.speed = 4800 := by decide
/-- R133: at stale_limit the pump enters FALLBACK. -/
theorem test_enterFallback : (after .enterFallback (computing { plant .active with
    fe.mode := .holding, fe.holdingCount := 2 })).fe.mode = .fallback := by decide
/-- R11: the completion at which the listen count reaches 0 enters ACTIVE. -/
theorem test_enterActive : (after .enterActive (computing (customer .listen))).sc.state = .active := by decide
/-- R79: an entry is STALE from age stale_limit on. -/
theorem test_entryStale : (after (.entryStale 5) { customer .active with
    pt.entries := [entry (custReport 5 1 20) 2 40 .fresh] }).pt.entries = [entry (custReport 5 1 20) 3 41 .stale] := by
  decide
/-- R80: an entry that reaches 2 × stale_limit is removed. -/
theorem test_entryRemoved : (after (.entryRemoved 5) { customer .active with
    pt.entries := [entry (custReport 5 1 20) 5 40 .stale] }).pt.entries = [] := by decide
/-- Section 9.3: from 77.50 % to 85.00 % at travel_time 120 takes 9000 ms; the end is 85.00 %. -/
theorem test_pulseEnd : demanded ConfigSet.defaults 7750 8500 = some ⟨.opening, .trim, 9000⟩ ∧
    (after .pulseEnd { customer .active with
      vd.drive := .pulsing ⟨.opening, .trim, some 7750, 0, 9000⟩ }).vd.estimate = some 8500 := by decide
/-- R161: the waiting pulse starts when the dwell is over. -/
theorem test_dwellEnd : (after .dwellEnd { customer .active with
    vd.drive := .dwelling (some ⟨.opening, .trim, 300⟩), vd.dwellTimer := 0 }).vd.drive =
      .pulsing ⟨.opening, .trim, some 7750, 0, 300⟩ := by decide
/-- R163: a closing seek ends at 0, and the pending target is acted on after the dwell. -/
theorem test_seekEnd : (after .seekEnd { customer .active with
    vd := ⟨none, .pulsing ⟨.closing, .seek, none, 0, 150000⟩, some 6000, .both, 0⟩ }).vd =
      ⟨some 0, .dwelling (some ⟨.opening, .trim, 72000⟩), none, .closing, 0⟩ := by decide
/-- R97: the second boundary of a hold forces its release. -/
theorem test_heldPending_boundary : (after .boundary { customer .active with
    cu := ⟨some 0, .heldPending⟩ }).latched .holdOverrun = true := by decide

/-! ### Witnesses: the machine and its laws -/

theorem witness_StepRunsCommandAtFront :
    ({ customer .active with pending := [.boundary, .hold] } : State).pending = .boundary :: [.hold] := by decide

/-- In hard reset; running with nothing due; running with one event due; and with two; each kind of event, at its moment and
just before it. -/
theorem witness_EmptyQueueIdles :
    (State.reset.pending = [] ∧ State.reset.inReset = true) ∧
    ((customer .active).pending = [] ∧ (customer .active).inReset = false ∧ (customer .active).dueEvents = []) ∧
    ({ customer .active with cu.timer := some 8000000 } : State).dueEvents = [.boundary] ∧
    ({ customer .active with cu.timer := some 8000000, lu.receiver := .discard, lu.quiet := 4167 } : State).dueEvents =
      [.boundary, .quietTimeIdle] ∧
    ({ computing (customer .active) with cu.timer := some 15999 } : State).dueEvents = [] ∧
    ({ computing (customer .active) with cu.timer := some 16000 } : State).dueEvents = [.computationCompletion] ∧
    ({ customer .active with fcu := ⟨10010000, 0, false, false, some 10000, true, none, 0⟩ } : State).dueEvents =
      [.flowTimeout] ∧
    ({ customer .active with lu.transmitter := .waiting .report 0 6250, lu.reportSlot := some ⟨.report report14, 0⟩ } :
      State).dueEvents = [.accessGapComplete] ∧
    ({ customer .active with vd.drive := .pulsing ⟨.opening, .trim, none, 799999, 100⟩ } : State).dueEvents = [] ∧
    ({ customer .active with vd.drive := .pulsing ⟨.opening, .trim, none, 800000, 100⟩ } : State).dueEvents = [.pulseEnd] ∧
    ({ customer .active with vd.drive := .pulsing ⟨.closing, .seek, none, 800000, 100⟩ } : State).dueEvents = [.seekEnd] ∧
    ({ customer .active with vd.drive := .dwelling none, vd.dwellTimer := 4000000 } : State).dueEvents = [.dwellEnd] := by
  decide

theorem witness_EndOfHardReset : State.reset.inReset = true ∧ (customer .active).inReset = false ∧
    Instr.boundary ≠ .hardReset ∧ ∀ code role flowin ssn, Instr.boundary ≠ .endOfHardReset code role flowin ssn :=
  ⟨by decide, by decide, by decide, fun _ _ _ _ h => nomatch h⟩

/-- A plant in CALC with three peers and a frame that waits, its completion commanded. -/
def busyPlant : State :=
  { computing { plant .active with
      pt := ⟨[Entry.created (plantReport 2 1 2600 2), Entry.created (custReport 9 1 (-50)),
        entry (custReport 14 3 20) 4 9 .stale], [.report (custReport 5 1 20)]⟩ } with
    pending := [.computationCompletion] }

/-- A customer in CALC with the same peers, yielding. -/
def busyCustomer : State :=
  { computing { customer .active with
      fe.cap := 9450
      fe.request := 9700
      pt := ⟨[Entry.created (plantReport 2 1 2600 2), Entry.created (custReport 14 3 (-50))], []⟩ } with
    pending := [.computationCompletion] }

theorem witness_StrapsAndConfigurationFixed : exec .boundary (plant .active) = .next (after .boundary (plant .active)) ∧
    Instr.boundary ≠ .hardReset ∧ (plant .active).sc.state.runs := ⟨rfl, by decide, by decide⟩

/-- A move of the station state, and moves of the cycle unit state by HOLD, a boundary and RELEASE. -/
theorem witness_StationStateMoves : exec .start fresh = .next (after .start fresh) ∧ Instr.start ≠ .hardReset ∧
    (after .start fresh).sc.state = .listen ∧ (∀ bits, Instr.start ≠ .unknownCommand bits) ∧
    (customer .active).cu.state = .opened ∧ (after .hold (customer .active)).cu.state = .held ∧
    (after .boundary { customer .active with cu := ⟨some 0, .held⟩ }).cu.state = .heldPending ∧
    (after .release { customer .active with cu := ⟨some 0, .held⟩ }).cu.state = .opened :=
  ⟨rfl, by decide, by decide, nofun, by decide, by decide, by decide, by decide⟩

/-- A latch that stands through a boundary, and a counter at its limit. -/
theorem witness_LatchesAndCountersStand :
    exec .boundary { customer .active with sp.latches := 1 } =
      .next (after .boundary { customer .active with sp.latches := 1 }) ∧
    ({ customer .active with sp.latches := 1 } : State).latched .addressConflict = true ∧
    ({ customer .active with sp.counters.fragments := 65535 } : State).counterLaw :=
  ⟨rfl, by decide, by decide⟩

theorem witness_StepKeepsTableLaw : busyPlant.tableLaw ∧ step busyPlant = .next (stepped busyPlant) :=
  ⟨by decide, rfl⟩

theorem witness_StepKeepsEntryLaw : busyPlant.entryLaw ∧ step busyPlant = .next (stepped busyPlant) := by
  refine ⟨⟨by decide, fun f hf => ?_⟩, rfl⟩
  have h : f = .report (custReport 5 1 20) := by simpa [busyPlant, computing] using hf
  subst h
  exact (by decide : (custReport 5 1 20).lawful)

/-- The configuration of a running station lies in its ranges and relations. -/
theorem configLaw_busy (s : State) (h : s.cfg = ConfigSet.defaults) : s.configLaw := by
  refine ⟨fun p => ?_, fun _ => by rw [h]; decide⟩
  rw [h]
  cases p with
  | chLo n => revert n; decide
  | chHi n => revert n; decide
  | _ => decide

theorem witness_StepKeepsConfigLaw : busyPlant.configLaw ∧ step busyPlant = .next (stepped busyPlant) :=
  ⟨configLaw_busy _ rfl, rfl⟩

theorem witness_StepKeepsSpeedLaw : busyPlant.speedLaw ∧ step busyPlant = .next (stepped busyPlant) :=
  ⟨by decide, rfl⟩

/-- A completion that moves the speed within ramp (e = 150, p = 75, I = 5002), and one that starts the pump at speed_min. -/
theorem witness_SpeedMovesByAtMostRamp :
    (busyPlant.speedLaw ∧ exec .computationCompletion busyPlant = .next (after .computationCompletion busyPlant) ∧
      (after .computationCompletion busyPlant).fe.speed = 5077) ∧
    ({ plant .active with fe := { State.reset.fe with integral := 0 }, pd.command := 0 } : State).speedLaw ∧
    (after .computationCompletion (computing { plant .active with
      fe := State.reset.fe, pd.command := 0 })).fe.speed = 3000 := ⟨⟨by decide, rfl, by decide⟩, by decide, by decide⟩

theorem witness_StepKeepsYieldLaw : (busyCustomer.configLaw ∧ busyCustomer.yieldLaw) ∧
    step busyCustomer = .next (stepped busyCustomer) := ⟨⟨configLaw_busy _ rfl, by decide⟩, rfl⟩

/-- A pulse in flight, commanded to its end. -/
def pulsing (kind : PulseKind) (d : Direction) : State :=
  { customer .active with vd := ⟨some 7750, .pulsing ⟨d, kind, some 7750, 0, 9000⟩, none, .closing, 4000000⟩ }

/-- A station in ACTIVE whose report's access gap is complete, commanded so. -/
def reporting : State :=
  { customer .active with
    sc := ⟨9, .customer, .active, 0, 0, false, false⟩
    lu.reportSlot := some ⟨.report { report14 with source := 9 }, 5⟩
    lu.transmitter := .waiting .report 14 35417
    pending := [.accessGapComplete] }

theorem witness_StepKeepsStationLaw : reporting.stationLaw ∧ step reporting = .next (stepped reporting) ∧
    (stepped reporting).lu.transmitter.isSending = true := by
  refine ⟨⟨by decide, by decide, by decide, by decide, ?_, by decide, ?_⟩, rfl, by decide⟩
  case refine_2 => exact (by decide : (reporting.lu.slot .report).isSome = true)
  intro o ho
  have h : o = ⟨.report { report14 with source := 9 }, 5⟩ := by simpa [reporting] using ho.symm
  subst h
  decide

/-- A channel one fault code from ABSENT, beside one held at the least value, one recovering and one VALID. -/
def failing : State :=
  { fresh with
    mu.channels := ⟨⟨some 0, .faultHold, some 5, 299, 0⟩, ⟨some 900, .faultHold, some (-32768), 0, 9⟩,
      ⟨some 900, .absent, none, 0, 9⟩, ⟨some 900, .valid, some 32767, 0, 0⟩⟩
    pending := [.conversionCompletion 0] }

theorem witness_StepKeepsChannelLaw : failing.channelLaw ∧ step failing = .next (stepped failing) ∧
    (stepped failing).mu.channels.c0.state = .absent := by
  refine ⟨fun n => ?_, rfl, by decide⟩
  match n with
  | 0 | 1 | 2 | 3 => simp [Channel.lawful, failing, Four.get]

theorem witness_StepKeepsValveLaw : ({ pulsing .trim .opening with pending := [.pulseEnd] } : State).valveLaw ∧
    step { pulsing .trim .opening with pending := [.pulseEnd] } =
      .next (stepped { pulsing .trim .opening with pending := [.pulseEnd] }) := ⟨by decide, rfl⟩

/-- A pulse that starts with the dwell timer at dwell, and a pulse that ends. -/
theorem witness_PulsesKeepTheDwell :
    ((customer .active).sc.role = .customer ∧ exec .reseek (customer .active) = .next (after .reseek (customer .active)) ∧
      (customer .active).vd.drives .opening = false ∧ (after .reseek (customer .active)).vd.drives .opening = true) ∧
    (exec .pulseEnd (pulsing .trim .opening) = .next (after .pulseEnd (pulsing .trim .opening)) ∧
      (pulsing .trim .opening).vd.drives .opening = true ∧
      (after .pulseEnd (pulsing .trim .opening)).vd.drives .opening = false) :=
  ⟨⟨by decide, rfl, by decide, by decide⟩, rfl, by decide, by decide⟩

/-! ### Witnesses: encodings and the port -/

theorem witness_PortMessagesRoundTrip : (takenRoleStates .hold).isSome = true ∧
    encodeCommand .hold = some [0x40, 0, 0xC0] ∧ encodeCommand (.configure 0x43 0xFFFF) =
      some [0x10, 3, 0x43, 0xFF, 0xFF, 0xAC] := by decide

theorem witness_ShiftedBitsAreTheCommand : encodeCommand .hold = some [0x40, 0, 0xC0] ∧
    (List.replicate 7 true).length < 8 ∧ (customer .active).sp.select = some [] := by decide

/-- The longest report a customer sends, the widest a plant does, and a notice from the highest address. -/
theorem witness_FramesRoundTrip :
    (⟨32, .customer, 255, noFlags, 10000, some (-32768), some 65535, some 32767, some 9999, none⟩ : Report).lawful ∧
    (⟨1, .plant, 0, noFlags, 0, none, some 0, none, none, some 255⟩ : Report).lawful ∧
    (⟨32, .customer, 255⟩ : Notice).lawful ∧
    checkFrame (Frame.report report14).characters = .good (.report report14) := by
  refine ⟨by decide, by decide, by decide, test_report14_received⟩

/-- Every drive state, with a waiting pulse and without; an index and none; both groups of results. -/
theorem witness_ResponsesAndRecords :
    ((customer .active).vd.drive = .idle ∧ (customer .active).vd.pulse = none ∧ (customer .active).vd.waitingPulse = none) ∧
    (pulsing .seek .opening).vd.pulse = some ⟨.opening, .seek, some 7750, 0, 9000⟩ ∧
    ({ customer .active with vd.drive := .dwelling (some ⟨.closing, .trim, 250⟩) } : State).vd.waitingPulse =
      some ⟨.closing, .trim, 250⟩ ∧
    (after .computationCompletion busyPlant).fe.record.any (fun r =>
      r.index == some (-50, 9) && r.results == .plant .run 5077 5002 false) = true ∧
    ((after .computationCompletion (computing (plant .listen))).fe.record.all (·.index.isNone) = true) ∧
    (Results.customer 9700 9450 none = .customer 9700 9450 none) := by decide

theorem witness_SelectPeriods :
    (({ fresh with sp.select := none, sp.ssnHigh := true } : State).inReset = false ∧
      ({ fresh with sp.select := none, sp.ssnHigh := true } : State).sp.ssnHigh = true) ∧
    fresh.sp.ssnHigh = false ∧
    ((takenRoleStates .hold).isSome = true ∧ ({ fresh with sp.select := none } : State).sp.select = none) := by decide

/-- No byte; one byte; a body one byte short; a wrong sum; an unknown code; a count too many. -/
theorem witness_MalformedCommandsAnswered : fresh.selected ∧ fresh.sp.select = some [] ∧
    assembleBytes (List.replicate 7 true) = [] ∧ assembleBytes (bitsOf [0x40]) = [0x40] ∧
    (assembleBytes (bitsOf [0x20, 2, 0x25, 0xE4]) = [0x20, 2, 0x25, 0xE4] ∧ ([0x25, 0xE4] : List Byte).length < 2 + 1) ∧
    byteSum [0x40, 0, 0xC1] ≠ 0 ∧
    (byteSum [0x60, 0, 0xA0] = 0 ∧ (0x60 : Byte) ∉ commandCodes.map Prod.fst) ∧
    (byteSum [0x40, 1, 0, 0xBF] = 0 ∧ ((0x40 : Byte), 0) ∈ commandCodes) := by decide

theorem witness_RoleAndStateTests :
    (takenRoleStates .reseek = some (some .customer, [.listen, .active, .muted, .quiet]) ∧ (plant .active).selected ∧
      (plant .active).sc.role ≠ .customer) ∧
    (fresh.selected ∧ fresh.sc.role = .customer ∧
      fresh.sc.state ∉ [StationState.listen, .active, .muted, .quiet]) := by decide

/-- An identifier of no parameter; a value one above its range; a span; a flow_timeout already elapsed and one not. -/
theorem witness_ConfigureStores : fresh.selected ∧ fresh.sc.state = .config ∧
    Param.ofId 0x44 = none ∧
    (Param.ofId 0x02 = some .staleLimit ∧ Param.staleLimit.inRange (Param.staleLimit.valueOf 16) = false) ∧
    (Param.ofId 0x10 = some (.chLo 0) ∧ (Param.chLo 0).inRange ((Param.chLo 0).valueOf 0x8000) = true) ∧
    (Param.ofId 0x05 = some .flowTimeout ∧ Param.flowTimeout.inRange (Param.flowTimeout.valueOf 1) = true ∧
      ({ fresh with fcu := ⟨1000000, 0, true, true, some 0, true, none, 0⟩ } : State).fcu.seenEdge = true ∧
      (1 : Word16).toNat * 1000000 ≤ ((1000000 : Word32) - 0).toNat ∧
      ((999999 : Word32) - 0).toNat < (1 : Word16).toNat * 1000000) := by decide

theorem witness_StartEntersListen : fresh.selected ∧ fresh.sc.state = .config ∧
    ¬(({ fresh with cfg.speedMin := 7001 } : State).cfg.speedMin ≤ 7000) ∧
    (∀ n, (fresh.cfg.span.get n).lo < (fresh.cfg.span.get n).hi) ∧ fresh.cfg.speedMin ≤ fresh.cfg.speedMax ∧
    fresh.cfg.speedMin ≤ fresh.cfg.fallbackSpeed ∧ fresh.cfg.fallbackSpeed ≤ fresh.cfg.speedMax := by decide

theorem witness_RuntimeSettingsStored : (customer .active).selected ∧ (customer .active).sc.role = .customer ∧
    (plant .active).selected ∧ (plant .active).sc.role = .plant := by decide

/-- An address below and above the range, one at its end with no entry, and one with. -/
theorem witness_ReadsAnswerRecords : busyPlant.selected ∧ (0 : Byte).toNat < 1 ∧ 32 < (33 : Byte).toNat ∧
    (∀ e ∈ busyPlant.pt.entries, e.address ≠ (32 : Byte).toNat) ∧
    busyPlant.pt.entries.find? (fun x => x.address == (2 : Byte).toNat) =
      some (Entry.created (plantReport 2 1 2600 2)) := by decide

theorem witness_CountersReadAndLatchesAcknowledged : fresh.selected ∧ (2 : Byte) ≠ 0 ∧ (2 : Byte) ≠ 1 := by decide

theorem witness_HoldTaken : fresh.selected ∧ fresh.sc.state = .config ∧
    ((customer .active).selected ∧ (customer .active).sc.state ≠ .config ∧ (customer .active).cu.state = .opened) ∧
    (busyPlant.selected ∧ busyPlant.cu.state = .calc (busyPlant.takeIn busyPlant.flowGiven)) ∧
    ({ customer .quiet with cu.state := .heldPending } : State).cu.state = .heldPending := by decide

/-- In CONFIG, in OPEN, in CALC, in HELD with a frame that waits, and in HELD_PENDING. -/
theorem witness_ReleaseTaken : (fresh.selected ∧ fresh.sc.state = .config) ∧
    ((customer .active).selected ∧ (customer .active).cu.state = .opened) ∧
    (busyPlant.selected ∧ busyPlant.cu.state = .calc (busyPlant.takeIn busyPlant.flowGiven)) ∧
    ({ busyPlant with cu := ⟨some 5, .held⟩ } : State).selected ∧
    ({ busyPlant with cu := ⟨some 5, .heldPending⟩ } : State).cu.state = .heldPending ∧
    ({ busyPlant with cu := ⟨some 5, .heldPending⟩ } : State).flowLate = false := by decide

/-! ### Witnesses: the life cycle -/

theorem witness_ReseekBeginsSeek : ((customer .active).selected ∧ (customer .active).sc.role = .customer ∧
      (customer .active).sc.state ≠ .config ∧ (customer .active).vd.seeking = false) ∧
    (pulsing .seek .opening).vd.seeking = true ∧
    (pulsing .trim .opening).vd.drive = .pulsing ⟨.opening, .trim, some 7750, 0, 9000⟩ := by decide

/-- From ACTIVE with a report in flight and one that waits; from LISTEN; with a pulse to cut. -/
theorem witness_LeaveTaken :
    (({ plant .active with lu.transmitter := .sending ⟨.report report14, 0⟩ 7, lu.reportSlot := some ⟨.report report14, 0⟩ } :
      State).selected ∧ (plant .active).sc.state ∈ [StationState.listen, .active, .muted]) ∧
    ((plant .listen).selected ∧ (plant .listen).sc.state ∈ [StationState.listen, .active, .muted] ∧
      (plant .listen).sc.state ≠ .active) ∧
    ((plant .active).lu.noticeSlot = none ∧ (plant .active).lu.transmitter = .idle) ∧
    (pulsing .trim .opening).vd.drive = .pulsing ⟨.opening, .trim, some 7750, 0, 9000⟩ := by decide

/-- A known estimate, an UNKNOWN one at rest, and one with a seek in flight. -/
theorem witness_RejoinTaken : (customer .quiet).selected ∧ (customer .quiet).sc.state = .quiet ∧
    (customer .quiet).vd.estimate.isSome = true ∧
    ({ customer .quiet with vd := State.reset.vd } : State).vd.estimate = none ∧
    ({ customer .quiet with vd := ⟨none, .pulsing ⟨.closing, .seek, none, 5, 150000⟩, none, .both, 0⟩ } :
      State).vd.seeking = true ∧ State.reset.vd.seeking = false := by decide

theorem witness_RestartTaken : (customer .quiet).selected ∧ (customer .quiet).sc.state ≠ .config ∧
    (plant .active).selected := by decide

/-! ### Witnesses: measurement -/

/-- Every channel state with a code of either class, at the boundaries of the classes and of the counts. -/
theorem witness_ConversionCompletes : fresh.inReset = false ∧ (575 : BitVec 12).toNat < 576 ∧
    3360 < (3361 : BitVec 12).toNat ∧ 576 ≤ (576 : BitVec 12).toNat ∧ (3360 : BitVec 12).toNat ≤ 3360 ∧
    (⟨none, .faultHold, some 5, 298, 8⟩ : Channel).faultHold + 1 < 300 ∧
    300 ≤ (⟨none, .faultHold, some 5, 299, 0⟩ : Channel).faultHold + 1 ∧
    (⟨none, .faultHold, some 5, 298, 8⟩ : Channel).recovery + 1 < 10 ∧
    10 ≤ (⟨none, .absent, none, 0, 9⟩ : Channel).recovery + 1 ∧
    (fresh.mu.channels.get fresh.mu.rotation).state = .unseeded ∧
    ({ fresh with mu.channels.c0 := ⟨none, .valid, some 5, 0, 0⟩ } : State).mu.channels.c0.filtered = some 5 := by decide

/-- A state in which an edge was captured at 10000, with a flow_timeout of ten seconds. -/
def captured : State := { fresh with fcu := ⟨10001, 7, false, false, some 10000, true, none, 0⟩ }

/-- The first edge; an edge just after the timeout, one at it; one of 199 µs, one of 200 µs; one behind the counter, a wrap away;
a high accepted level. -/
theorem witness_FlowCaptured : captured.inReset = false ∧ captured.fcu.fraction < 8 ∧ captured.fcu.accepted = false ∧
    captured.fcu.seenEdge = true ∧ captured.fcu.lastCapture = some 10000 ∧ fresh.fcu.seenEdge = false ∧
    captured.cfg.flowTimeout * 1000000 <
      (captured.fcu.counter - 10000).toNat + ((10010001 : Word32) - captured.fcu.counter).toNat ∧
    (captured.fcu.counter - 10000).toNat + ((10010000 : Word32) - captured.fcu.counter).toNat ≤
      captured.cfg.flowTimeout * 1000000 ∧
    ((10199 : Word32) - 10000).toNat < 200 ∧ 200 ≤ ((10200 : Word32) - 10000).toNat ∧
    (captured.fcu.counter - 10000).toNat + ((10199 : Word32) - captured.fcu.counter).toNat ≤
      captured.cfg.flowTimeout * 1000000 ∧
    captured.cfg.flowTimeout * 1000000 <
      (captured.fcu.counter - 10000).toNat + ((10000 : Word32) - captured.fcu.counter).toNat ∧
    ({ captured with fcu.accepted := true } : State).fcu.accepted = true := by decide

/-- The clauses about the low level and the timeout. -/
theorem witness_FlowCaptured_timeout : captured.inReset = false ∧ fresh.fcu.seenEdge = false ∧
    captured.fcu.seenEdge = true ∧ captured.fcu.lastCapture = some 10000 ∧ captured.fcu.fraction < 8 ∧
    captured.cfg.flowTimeout ≤ 60 ∧
    (captured.fcu.counter - 10000).toNat ≤ captured.cfg.flowTimeout * 1000000 ∧
    captured.cfg.flowTimeout * 1000000 ≤
      (({ captured with fcu.counter := 10010000 } : State).fcu.counter - 10000).toNat := by decide

/-- No meter configured; a meter and no edge; a period that has stood just as long as it is, and one beyond the timeout. -/
theorem witness_ComputationTakesIn : fresh.cfg.flowVp = 0 ∧
    (({ fresh with cfg.flowVp := 100 } : State).cfg.flowVp ≠ 0 ∧ fresh.fcu.seenEdge = false) ∧
    (({ captured with cfg.flowVp := 100, fcu.lastPeriod := some 5000 } : State).fcu.lastPeriod = some 5000 ∧
      (captured.fcu.counter - captured.fcu.lastCapture.getD 0).toNat < captured.cfg.flowTimeout * 1000000) ∧
    captured.cfg.flowTimeout * 1000000 ≤ ((10010000 : Word32) - captured.fcu.lastCapture.getD 0).toNat := by decide

/-! ### Witnesses: the link and the table -/

/-- The clauses about the busy and the idle line. -/
theorem witness_CharactersReceived_idle : (customer .active).inReset = false ∧ (customer .active).lu.receiver = .hunt ∧
    ({ customer .active with lu.receiver := .discard } : State).lu.receiver = .discard ∧
    ({ customer .active with lu.receiver := .collect true [3] } : State).lu.receiver = .collect true [3] := by decide

/-- Each receiver state, with the delimiter and another character, a length at each end of its range and beyond it, and a
frame one character short of its last. -/
theorem witness_CharactersReceived : (customer .active).inReset = false ∧ (customer .active).lu.receiver = .hunt ∧
    (0xC3 : Byte) = 0xC3 ∧ (0xC2 : Byte) ≠ 0xC3 ∧ 3 ≤ (3 : Byte).toNat ∧ (16 : Byte).toNat ≤ 16 ∧ (2 : Byte).toNat < 3 ∧
    16 < (17 : Byte).toNat ∧
    ({ customer .active with lu.receiver := .collect false [] } : State).lu.receiver = .collect false [] ∧
    ({ customer .active with lu.receiver := .collect false [3, 1, 0x22] } : State).lu.receiver =
      .collect false (3 :: [1, 0x22]) ∧
    ([1, 0x22] : List Byte).length + 1 ≠ (3 : Byte).toNat + 2 := by decide

/-- A customer that has all but the last character of a frame. -/
def receiving (own : Bool) (f : Frame) : State :=
  { customer .active with lu.receiver := .collect own f.characters.dropLast }

/-- A whole notice but for its last character: a good frame of another source and of the own one, a wrong check, and a body
of no kind. -/
theorem witness_FrameCompletes :
    (receiving false (.notice ⟨14, .customer, 7⟩)).inReset = false ∧
    (Frame.notice ⟨14, .customer, 7⟩).characters.dropLast.length = 5 ∧
    (receiving false (.notice ⟨14, .customer, 7⟩)).lu.receiver =
      .collect false (3 :: [14, 0x22, 7, ((Frame.notice ⟨14, .customer, 7⟩).characters.getD 4 0)]) ∧
    ([14, 0x22, 7, 0] : List Byte).length = (3 : Byte).toNat + 1 ∧
    checkFrame (Frame.notice ⟨14, .customer, 7⟩).characters = .good (.notice ⟨14, .customer, 7⟩) ∧
    checkFrame (Frame.notice ⟨9, .customer, 7⟩).characters = .good (.notice ⟨9, .customer, 7⟩) ∧
    (Frame.notice ⟨9, .customer, 7⟩).source = (customer .active).sc.address ∧
    checkFrame [3, 14, 0x22, 7, 0, 0] = .crcFailure ∧
    checkFrame [3, 14, 0x32, 7, (crc16 [3, 14, 0x32, 7]).extractLsb' 8 8, (crc16 [3, 14, 0x32, 7]).extractLsb' 0 8] =
      .formatFailure := by decide +kernel

theorem witness_GapCompletesAndFrameSent :
    (({ customer .active with lu.transmitter := .waiting .report 8 0, lu.reportSlot := some ⟨.report report14, 2⟩ } :
      State).lu.slot .report = some ⟨.report report14, 2⟩) ∧
    ({ customer .active with lu.transmitter := .sending ⟨.report report14, 2⟩ 0 } : State).lu.transmitter =
      .sending ⟨.report report14, 2⟩ 0 := by decide

/-- A superseded report, a fifth attempt that fails and a sixth. -/
theorem witness_CollisionEnds : (customer .active).inReset = false ∧
    ({ customer .active with
      lu.transmitter := .sending ⟨.report report14, 5⟩ 0
      lu.reportSlot := some ⟨.report report14, 0⟩ } : State).lu.reportSlot.isSome = true ∧
    (Frame.report report14).slot = .report ∧ (4 : Nat) + 1 < 6 ∧ 6 ≤ (5 : Nat) + 1 ∧
    (customer .active).lu.reportSlot = none := by decide

/-- The table of busyPlant with each row of Table 4.2: another role, RESTARTED, d of 0, 1, 127, 128 and 255. -/
theorem witness_ReportsAndNoticesApplied :
    busyPlant.pt.find 5 = none ∧ busyPlant.pt.find 9 = some (Entry.created (custReport 9 1 (-50))) ∧
    (Entry.created (custReport 9 1 (-50))).role ≠ (plantReport 9 1 0 1).role ∧
    ({ custReport 9 0 0 with flags.restarted := true } : Report).flags.restarted = true ∧
    [1, 2, 128, 129, 0].map (fun q => ((BitVec.ofNat 8 q).toNat + 256 - (1 : Byte).toNat) % 256) = [0, 1, 127, 128, 255] ∧
    (busyPlant.pt.find 9).isSome = true := by decide

/-- A table that is open; closed with the source's record waiting, with room, and with eight records. -/
theorem witness_FramesOfferedToTheQueue : (customer .active).tableOpen = true ∧ busyPlant.tableOpen = false ∧
    (busyPlant.pt.queue.map Frame.source).Nodup ∧
    (Frame.notice ⟨5, .customer, 1⟩).source ∈ busyPlant.pt.queue.map Frame.source ∧
    (Frame.notice ⟨6, .customer, 1⟩).source ∉ busyPlant.pt.queue.map Frame.source ∧ busyPlant.pt.queue.length < 8 ∧
    (((List.range 8).map fun n => Frame.notice ⟨n + 20, .customer, 1⟩).map Frame.source).Nodup ∧
    8 ≤ ((List.range 8).map fun n => Frame.notice ⟨n + 20, .customer, 1⟩).length := by decide

/-! ### Witnesses: the cycle, the figures, the laws, the valve -/

theorem witness_BoundaryTaken : (customer .active).inReset = false ∧ (customer .active).cu.timer = some 0 ∧
    (customer .active).cu.state = .opened ∧
    ({ customer .active with cu := ⟨some 8000000, .held⟩ } : State).cu.state = .held ∧
    ({ customer .active with cu := ⟨some 0, .heldPending⟩ } : State).cu.state = .heldPending := by decide

theorem witness_HoldEndsAtSecondBoundary : (customer .active).selected ∧ (customer .active).sc.state ≠ .config ∧
    (customer .active).cu.timer.isSome = true ∧ (customer .active).cu.state = .opened := by decide

/-- In ACTIVE; and at the entry from LISTEN with the speed above 0 and at 0, the availability set and clear. -/
theorem witness_PlantCompletionCommits : busyPlant.inReset = false ∧ busyPlant.sc.role = .plant ∧
    busyPlant.cu = ⟨some 0, .calc (busyPlant.takeIn busyPlant.flowGiven)⟩ ∧
    (plant .listen).sc.state = .listen ∧ (plant .listen).sc.listenCount ≤ 1 ∧ (plant .listen).sc.available = true ∧
    ({ plant .listen with sc.available := false } : State).sc.available = false ∧
    0 < (plantLaw .listen ConfigSet.defaults ((plant .listen).takeIn none)
      (figures (plant .listen).sc ConfigSet.defaults ((plant .listen).takeIn none) [])).speed ∧
    (plantLaw .listen ConfigSet.defaults (({ plant .listen with fe.speed := 0 } : State).takeIn none)
      (figures (plant .listen).sc ConfigSet.defaults ((plant .listen).takeIn none) [])).speed = 0 := by decide

/-- Starved with a deficit; starved as the index itself; not starved; in LISTEN and in QUIET. -/
theorem witness_CustomerCompletionCommits : busyCustomer.inReset = false ∧ busyCustomer.sc.role = .customer ∧
    busyCustomer.cu = ⟨some 0, .calc (busyCustomer.takeIn busyCustomer.flowGiven)⟩ ∧
    (busyCustomer.takeIn none).cap = busyCustomer.fe.cap ∧
    (figures busyCustomer.sc busyCustomer.cfg (busyCustomer.takeIn none) busyCustomer.pt.entries).starved = true ∧
    0 < (figures busyCustomer.sc busyCustomer.cfg (busyCustomer.takeIn none) busyCustomer.pt.entries).deficit ∧
    (figures busyCustomer.sc busyCustomer.cfg (busyCustomer.takeIn none) busyCustomer.pt.entries).ownIndex = false ∧
    (figures busyCustomer.sc busyCustomer.cfg (busyCustomer.takeIn none) []).starved = false ∧
    (figures (customer .active).sc ConfigSet.defaults
      { busyCustomer.takeIn none with channels := ⟨some 0, some 1000, none, none⟩ } []).ownIndex = true := by decide

/-- An idle transmitter, one that waits on the report slot, and one that sends. -/
theorem witness_CompletionReportsAndOpens : busyPlant.inReset = false ∧
    busyPlant.cu = ⟨some 0, .calc (busyPlant.takeIn busyPlant.flowGiven)⟩ ∧ busyPlant.sc.state = .active ∧
    busyPlant.lu.transmitter = .idle ∧
    ({ busyPlant with lu.transmitter := .waiting .report 3 9, lu.reportSlot := some ⟨.report report14, 1⟩ } :
      State).lu.transmitter = .waiting .report 3 9 ∧
    ({ busyPlant with lu.transmitter := .sending ⟨.report report14, 1⟩ 9 } : State).lu.transmitter.isSending = true ∧
    (computing (plant .listen)).sc.state ≠ .active := by decide

/-- A plant whose next completion without an index is the last it holds for. -/
def holdingPlant : State := computing { plant .active with fe.mode := .holding, fe.holdingCount := 2 }

/-- A state for each of the six rows, at the count at which its outcome comes. -/
theorem witness_OutcomeRowsAreTheirEvents :
    (fresh.inReset = false ∧ fresh.mu.rotation = 0 ∧ (575 : BitVec 12).toNat < 576 ∧
      ({ fresh with mu.channels.c0 := ⟨none, .faultHold, some 5, 299, 0⟩ } : State).mu.channels.c0.state = .faultHold ∧
      300 ≤ (299 : Nat) + 1) ∧
    (576 ≤ (576 : BitVec 12).toNat ∧
      ({ fresh with mu.channels.c0 := ⟨none, .absent, none, 0, 9⟩ } : State).mu.channels.c0.state = .absent ∧
      10 ≤ (9 : Nat) + 1) ∧
    ((computing (customer .listen)).cu =
        ⟨some 0, .calc ((customer .listen).takeIn (customer .listen).flowGiven)⟩ ∧
      (computing (customer .listen)).sc.state = .listen ∧ (computing (customer .listen)).sc.listenCount = 1 ∧
      (computing (customer .muted)).sc.state = .muted ∧ (computing (customer .muted)).sc.muteCount = 1) ∧
    (holdingPlant.inReset = false ∧ holdingPlant.cu = ⟨some 0, .calc (holdingPlant.takeIn holdingPlant.flowGiven)⟩ ∧
      holdingPlant.sc.role = .plant ∧ holdingPlant.sc.state = .active ∧ holdingPlant.fe.mode = .holding ∧
      (holdingPlant.takeIn holdingPlant.flowGiven).available = true ∧
      (figures holdingPlant.sc holdingPlant.cfg (holdingPlant.takeIn holdingPlant.flowGiven) holdingPlant.pt.entries).index =
        none ∧
      holdingPlant.cfg.staleLimit ≤ (holdingPlant.takeIn holdingPlant.flowGiven).holdingCount + 1) ∧
    (({ customer .active with pt.entries := [entry (custReport 5 1 20) 2 40 .fresh] } : State).pt.find (5 : Byte).toNat =
        some (entry (custReport 5 1 20) 2 40 .fresh) ∧ ConfigSet.defaults.staleLimit ≤ 2 + 1 ∧
      2 + 1 < 2 * ConfigSet.defaults.staleLimit) ∧
    (({ customer .active with pt.entries := [entry (custReport 5 1 20) 5 40 .stale] } : State).tableLaw ∧
      2 * ConfigSet.defaults.staleLimit ≤ 5 + 1) := by decide

/-- Two values present and one absent; dT below, at and above dt_design; an empty and a full candidate set. -/
theorem witness_FiguresFormed :
    (figures busyPlant.sc ConfigSet.defaults (busyPlant.takeIn none) busyPlant.pt.entries).index = some (-50, 9) ∧
    (figures (customer .active).sc ConfigSet.defaults
      { busyCustomer.takeIn none with channels := ⟨some 4820, some 4310, some 600, some 1300⟩ } []).deltaT = some 700 ∧
    (figures (customer .active).sc ConfigSet.defaults
      { busyCustomer.takeIn none with channels := ⟨some 4820, some 4310, some 600, some 1299⟩ } []).deficit = 1 ∧
    (figures (plant .active).sc ConfigSet.defaults (busyPlant.takeIn none) []).index = none := by decide

/-- What a plant in a mode, with a speed and an availability, took in. -/
def takenIn (mode : PumpMode) (speed integral : Nat) (available : Bool) : Taken :=
  { (plant .active).takeIn (some 3400) with mode := mode, speed := speed, integral := integral, available := available }

/-- Figures with an index margin of 10.0 kPa, on target, and with none. -/
def onTarget : Figures := figures (plant .active).sc ConfigSet.defaults (takenIn .run 5000 5000 true)
  [Entry.created (custReport 9 1 100)]
def noIndex : Figures := figures (plant .active).sc ConfigSet.defaults (takenIn .run 5000 5000 true) []

/-- Every row of the table of R123, LISTEN and QUIET, FROZEN with a speed, and FALLBACK below and above fallback_speed with
the header within its limit and above it. -/
theorem witness_PumpModesCommitted :
    (plantLaw .listen ConfigSet.defaults (takenIn .stopping 5000 4000 true) noIndex).mode = .frozen ∧
    (plantLaw .quiet ConfigSet.defaults (takenIn .run 5000 5000 true) onTarget).speed = 4800 ∧
    ((takenIn .frozen 5000 5000 true).mode = .frozen ∧ 0 < (takenIn .frozen 5000 5000 true).speed) ∧
    (plantLaw .active ConfigSet.defaults (takenIn .fallback 5000 5000 true) noIndex).speed = 5200 ∧
    (plantLaw .active ConfigSet.defaults (takenIn .fallback 5000 5000 true) { noIndex with dp := some 32768 }).speed = 5000 ∧
    noIndex.dp = none ∧ (ConfigSet.defaults.hdrDpMax : Int) < 32768 ∧ onTarget.index = some (100, 9) ∧
    (plantLaw .active ConfigSet.defaults (takenIn .stopped 0 0 false) noIndex).mode = .stopped ∧
    (plantLaw .muted ConfigSet.defaults (takenIn .frozen 0 0 true) noIndex).mode = .run ∧
    (takenIn .stopping 3000 0 true).mode = .stopping ∧ (takenIn .run 3001 0 false).mode.running = true ∧
    onTarget.index.isSome = true ∧ noIndex.index = none ∧ (takenIn .run 5000 5000 true).available = true ∧
    (takenIn .holding 5000 5000 true).mode = .holding ∧
    ((takenIn .holding 5000 5000 true).holdingCount + 1 < ConfigSet.defaults.staleLimit) ∧
    (takenIn .fallback 7000 7000 true).mode = .fallback ∧ ConfigSet.defaults.fallbackSpeed ≤ 7000 := by decide

theorem witness_ReturnIsBumpless : (takenIn .fallback 5000 5000 true).mode = .fallback ∧
    onTarget.index = some (100, 9) ∧ ConfigSet.defaults.speedOk 5000 ∧ ConfigSet.defaults.speedMax ≤ 10000 ∧
    proportional ConfigSet.defaults.kp (plantError 100 100) = 0 ∧
    shareTerm ConfigSet.defaults (takenIn .fallback 5000 5000 true) onTarget = 0 ∧
    (takenIn .fallback 5000 5000 true).mTarget = 100 ∧
    integralStep ConfigSet.defaults.ki (plantError 100 100) = 0 := by decide

/-- With the header within its limit, and above it. -/
theorem witness_RunLawFormed : (takenIn .run 5000 5000 true).mode = .run ∧ (takenIn .run 5000 5000 true).available = true ∧
    onTarget.index = some (100, 9) ∧ ConfigSet.defaults.speedOk (takenIn .run 5000 5000 true).speed ∧
    onTarget.dp = none ∧ ({ onTarget with dp := some 32768 } : Figures).dp = some 32768 ∧
    (ConfigSet.defaults.hdrDpMax : Int) < 32768 := by decide

theorem witness_OutputsFollowState : (plant .active).inReset = false ∧ (plant .active).sc.role = .plant ∧
    (customer .active).sc.role = .customer ∧ (plant .active).pd.phase < 800 ∧ 800 ≤ (plant .active).pd.phase + 800 ∧
    (plant .active).lu.transmitter.isSending = false ∧
    ({ plant .active with lu.transmitter := .sending ⟨.report report14, 0⟩ 209 } : State).lu.transmitter =
      .sending ⟨.report report14, 0⟩ 209 := by decide

theorem witness_ValveEndsTaken : (pulsing .trim .opening).inReset = false ∧ (pulsing .trim .opening).sc.role = .customer ∧
    (pulsing .trim .opening).vd.drive = .pulsing ⟨.opening, .trim, some 7750, 0, 9000⟩ ∧
    (pulsing .toEnd .closing).vd.drive = .pulsing ⟨.closing, .toEnd, some 7750, 0, 9000⟩ ∧
    (pulsing .seek .closing).vd.pending = none ∧
    ({ pulsing .seek .closing with vd.pending := some 6000 } : State).vd.pending = some 6000 ∧
    ({ customer .active with vd.drive := .dwelling none } : State).vd.drive = .dwelling none := by decide

/-- Seeking; UNKNOWN at rest; targets at both ends; a gap of deadband and one above it; the same and the other direction of a
pulse in flight. -/
theorem witness_TargetsActedOn : (pulsing .seek .opening).vd.seeking = true ∧
    (State.reset.vd.drive = .idle ∧ State.reset.vd.seeking = false ∧ State.reset.vd.estimate = none) ∧
    demanded ConfigSet.defaults 7750 7850 = none ∧ demanded ConfigSet.defaults 7750 7851 = some ⟨.opening, .trim, 1212⟩ ∧
    demanded ConfigSet.defaults 7750 0 = some ⟨.closing, .toEnd, 105000⟩ ∧
    demanded ConfigSet.defaults 7750 10000 = some ⟨.opening, .toEnd, 39000⟩ ∧
    (pulsing .trim .opening).vd.drive = .pulsing ⟨.opening, .trim, some 7750, 0, 9000⟩ ∧ PulseKind.trim ≠ .seek ∧
    demanded ConfigSet.defaults 7750 7649 = some ⟨.closing, .trim, 1212⟩ := by decide

end Sys2Proof.Tests
end

section
/-! What one step of the part can do, said once: every row of the dispatch is one of the moves below, and a host command
is one of the services below. An invariant is then proved move by move. -/

namespace Sys2Proof.Machine

/-! ### Host commands (Table 10.1) -/

/-- What a host command that is taken does to the state, its answer aside, and the tests it has passed by then. -/
inductive State.Serves (s : State) : State → Prop
  | unchanged : s.Serves s
  | stored (p : Param) (x : Int) : s.sc.state = .config → p.inRange x = true → s.Serves (s.store p x)
  | started : s.sc.state = .config → s.cfg.relationsHold = true → s.Serves s.startStation
  | requestSet (v : Word16) : s.sc.role = .customer → s.Serves { s with fe.request := min 10000 v.toNat }
  | availableSet (b : Bool) : s.sc.role = .plant → s.Serves { s with sc.available := b }
  | targetSet (v : Word16) : s.sc.role = .plant →
      s.Serves { s with cfg.mTarget := (clamp 0 5000 v.toInt).toNat }
  | countersCleared : s.Serves { s with sp.counters := Counters.zero }
  | latchesCleared (mask : Byte) : s.Serves { s with sp.latches := s.sp.latches &&& ~~~mask }
  | held : s.sc.state ≠ .config → s.cu.state = .opened → s.Serves { s with cu.state := .held }
  | released : s.sc.state ≠ .config → s.cu.state = .held → s.Serves s.openTable
  | resumed : s.sc.state ≠ .config → s.cu.state = .heldPending → s.Serves s.agingPass.startComputation
  | sought : s.sc.role = .customer → s.sc.state ≠ .config → s.Serves { s with vd := s.vd.beginSeek s.cfg }
  | left : s.sc.state ∈ [StationState.listen, .active, .muted] → s.Serves s.leaveNetwork
  | rejoined : s.sc.state = .quiet → s.Serves s.rejoinNetwork
  | restarted : s.sc.state ≠ .config → s.Serves s.softRestart

/-- A role-bound command serves nothing or is the command of its role (R2). -/
theorem State.Serves.of_boundTo {s : State} {r : Role} {f : State → Reply} (h : s.sc.role = r → s.Serves (f s).2) :
    s.Serves (boundTo r f s).2 := by
  by_cases hr : s.sc.role = r
  · rw [boundTo_of_role hr]; exact h hr
  · rw [boundTo_of_ne hr]; exact .unchanged

/-- A command not taken in the station's state serves nothing (Table 10.1). -/
theorem State.Serves.of_takenIn {s : State} {xs : List StationState} {f : State → Reply}
    (h : s.sc.state ∈ xs → s.Serves (f s).2) : s.Serves (takenIn xs f s).2 := by
  by_cases hx : s.sc.state ∈ xs
  · rw [takenIn_of_mem hx]; exact h hx
  · rw [takenIn_of_not_mem hx]; exact .unchanged

/-- Every reply is one of the services. -/
theorem replyOf_serves (c : Instr) (s : State) : s.Serves (replyOf c s).2 := by
  cases c
  case configure id v =>
    refine .of_takenIn fun hx => ?_
    have hc : s.sc.state = .config := by simpa using hx
    split
    · exact .unchanged
    · split
      · exact .stored _ _ hc ‹_›
      · exact .unchanged
  case start =>
    refine .of_takenIn fun hx => ?_
    split
    · exact .started (by simpa using hx) ‹_›
    · exact .unchanged
  case setRequest v => exact .of_boundTo fun hr => .requestSet v hr
  case setAvailable v =>
    refine .of_boundTo fun hr => ?_
    split
    · exact .availableSet false hr
    · split
      · exact .availableSet true hr
      · exact .unchanged
  case setTarget v => exact .of_boundTo fun hr => .targetSet v hr
  case readFigures =>
    simp only [replyOf, replyReadFigures]
    split <;> exact .unchanged
  case readPeer a =>
    simp only [replyOf, replyReadPeer]
    split
    · split <;> exact .unchanged
    · exact .unchanged
  case readCounters o =>
    simp only [replyOf, replyReadCounters]
    split
    · exact .unchanged
    · split
      · exact .countersCleared
      · exact .unchanged
  case ackLatches m => exact .latchesCleared m
  case hold =>
    refine .of_takenIn fun hx => ?_
    have hr := mem_runningStates.mp hx
    split
    · exact .held hr ‹_›
    · exact .unchanged
    · exact .unchanged
    · exact .unchanged
  case release =>
    refine .of_takenIn fun hx => ?_
    have hr := mem_runningStates.mp hx
    split
    · exact .released hr ‹_›
    · exact .resumed hr ‹_›
    · exact .unchanged
    · exact .unchanged
  case reseek =>
    refine .of_boundTo fun hr => .of_takenIn fun hx => ?_
    split
    · exact .unchanged
    · exact .sought hr (mem_runningStates.mp hx)
  case leave => exact .of_takenIn fun hx => .left hx
  case rejoin => exact .of_takenIn fun hx => .rejoined (by simpa using hx)
  case restart => exact .of_takenIn fun hx => .restarted (mem_runningStates.mp hx)
  all_goals exact .unchanged

/-! ### Moves of the running part -/

/-- What the passing of time, an event, or the end of a select period does to a part out of hard reset. A row that names an
outcome of an event is that event, or stays. -/
inductive State.Moves (s : State) : State → Prop
  | stay : s.Moves s
  | pass (d : Nat) : s.Moves (s.pass d)
  | conversion (code : BitVec 12) : s.Moves (s.conversion code)
  | flowCapture (v : Word32) : s.Moves (s.flowCapture v)
  | flowinLow : s.Moves s.flowinLow
  | flowTimeout : s.Moves s.flowTimeout
  | dominant : s.Moves { s with lu := s.lu.dominant 0 }
  | character (c : Byte) : s.Moves (s.character c)
  | framingFault : s.Moves s.framingFault
  | idleLine : s.Moves s.idleLine
  | accessGap : s.Moves s.accessGap
  | collision : s.Moves s.collision
  | frameSent : s.Moves s.frameSent
  | boundary : s.Moves s.boundary
  | completion : s.Moves s.completion
  | pulseEnd : s.Moves s.pulseEnd
  | dwellEnd : s.Moves s.dwellEnd
  | seekEnd : s.Moves s.seekEnd
  | selected : s.Moves { s with sp.select := some [], sp.ssnHigh := false }
  | deselected : s.Moves s.deselect
  | answered {t : State} (r : Response) : s.Serves t → s.Moves (t.deselect.answer r)

/-- A row that names an outcome makes its event's move or none (assumption log 6). -/
theorem State.Moves.of_whenOutcome {s : State} {event : State → State} (outcome : State → State → Bool)
    (h : s.Moves (event s)) : s.Moves (s.whenOutcome event outcome) := by
  rcases State.whenOutcome_cases event outcome s with ⟨e, -⟩ | ⟨e, -⟩ <;> rw [e]
  · exact h
  · exact .stay

/-- The end of a select period answers a service or only deselects. -/
theorem State.Moves.of_portCommand {s : State} {f : State → Reply} (h : s.Serves (f s).2) :
    s.Moves (s.portCommand f) := by
  unfold State.portCommand
  split
  · exact .answered _ h
  · exact .deselected

/-- A host command's row makes a move. -/
theorem State.Moves.of_replyOf (c : Instr) (s : State) : s.Moves (s.portCommand (replyOf c)) :=
  .of_portCommand (replyOf_serves c s)

/-- Whatever bytes a select period shifted in, its end makes a move. -/
theorem State.Moves.of_periodEnd (bytes : List Byte) (s : State) : s.Moves (s.periodEnd bytes) := by
  unfold State.periodEnd
  split
  · exact .deselected
  · exact .of_portCommand .unchanged
  · exact .of_replyOf _ s

/-- Either of two moves is one. -/
theorem State.Moves.of_ite {s t u : State} {p : Prop} [Decidable p] (ht : s.Moves t) (hu : s.Moves u) :
    s.Moves (if p then t else u) := by
  split
  · exact ht
  · exact hu

/-- A format fault is a framing fault, a character, or nothing (R50). -/
theorem State.Moves.of_formatFault (fault : RxFault) (s : State) : s.Moves (s.formatFault fault) := by
  cases fault with
  | framing => exact .framingFault
  | length l => exact .of_ite (.character l) .stay

/-! ### Steps -/

/-- Every row but HARD_RESET and END_OF_HARD_RESET is an event, and the event is a move. -/
theorem exec_eq_event {c : Instr} (hr : c ≠ .hardReset)
    (he : ∀ a role flowin ssn, c ≠ .endOfHardReset a role flowin ssn) (s : State) :
    ∃ f : State → State, exec c s = s.event f ∧ s.Moves (f s) := by
  cases c
  case hardReset => exact absurd rfl hr
  case endOfHardReset a role flowin ssn => exact absurd rfl (he a role flowin ssn)
  case configure id v => exact ⟨_, rfl, .of_replyOf (.configure id v) s⟩
  case start => exact ⟨_, rfl, .of_replyOf .start s⟩
  case setRequest v => exact ⟨_, rfl, .of_replyOf (.setRequest v) s⟩
  case setAvailable v => exact ⟨_, rfl, .of_replyOf (.setAvailable v) s⟩
  case setTarget v => exact ⟨_, rfl, .of_replyOf (.setTarget v) s⟩
  case readStation => exact ⟨_, rfl, .of_replyOf .readStation s⟩
  case readFigures => exact ⟨_, rfl, .of_replyOf .readFigures s⟩
  case listPeers => exact ⟨_, rfl, .of_replyOf .listPeers s⟩
  case readPeer a => exact ⟨_, rfl, .of_replyOf (.readPeer a) s⟩
  case readCounters o => exact ⟨_, rfl, .of_replyOf (.readCounters o) s⟩
  case ackLatches m => exact ⟨_, rfl, .of_replyOf (.ackLatches m) s⟩
  case hold => exact ⟨_, rfl, .of_replyOf .hold s⟩
  case release => exact ⟨_, rfl, .of_replyOf .release s⟩
  case reseek => exact ⟨_, rfl, .of_replyOf .reseek s⟩
  case leave => exact ⟨_, rfl, .of_replyOf .leave s⟩
  case rejoin => exact ⟨_, rfl, .of_replyOf .rejoin s⟩
  case restart => exact ⟨_, rfl, .of_replyOf .restart s⟩
  case unknownCommand bits => exact ⟨_, rfl, .of_periodEnd _ s⟩
  case conversionCompletion code => exact ⟨_, rfl, .conversion code⟩
  case channelAbsent n code => exact ⟨_, rfl, .of_whenOutcome _ (.conversion code)⟩
  case channelRecovered n code => exact ⟨_, rfl, .of_whenOutcome _ (.conversion code)⟩
  case flowCapture v => exact ⟨_, rfl, .flowCapture v⟩
  case flowTimeout => exact ⟨_, rfl, .flowTimeout⟩
  case quietTimeIdle => exact ⟨_, rfl, .idleLine⟩
  case rxFormatFault fault => exact ⟨_, rfl, .of_formatFault fault s⟩
  case frameComplete c => exact ⟨_, rfl, .of_ite (.character c) .stay⟩
  case accessGapComplete => exact ⟨_, rfl, .accessGap⟩
  case collision => exact ⟨_, rfl, .collision⟩
  case frameAbandoned => exact ⟨_, rfl, .of_ite .collision .stay⟩
  case frameSent => exact ⟨_, rfl, .frameSent⟩
  case boundary => exact ⟨_, rfl, .boundary⟩
  case computationCompletion => exact ⟨_, rfl, .completion⟩
  case enterFallback => exact ⟨_, rfl, .of_whenOutcome _ .completion⟩
  case enterActive => exact ⟨_, rfl, .of_whenOutcome _ .completion⟩
  case entryStale a => exact ⟨_, rfl, .of_whenOutcome _ .boundary⟩
  case entryRemoved a => exact ⟨_, rfl, .of_whenOutcome _ .boundary⟩
  case pulseEnd => exact ⟨_, rfl, .pulseEnd⟩
  case dwellEnd => exact ⟨_, rfl, .dwellEnd⟩
  case seekEnd => exact ⟨_, rfl, .seekEnd⟩
  case characterCompleted c => exact ⟨_, rfl, .character c⟩
  case lineBusy => exact ⟨fun s => { s with lu := s.lu.dominant 0 }, rfl, .dominant⟩
  case flowinLowAccepted => exact ⟨_, rfl, .flowinLow⟩
  case selectPeriodBegin => exact ⟨_, rfl, .of_ite .selected .stay⟩

/-- What a command does: a hard reset, its end, nothing, or a move of the part out of hard reset. -/
theorem exec_cases {c : Instr} {s t : State} (h : exec c s = .next t) :
    t = s.hardReset ∨
    (∃ a role flowin ssn, s.inReset = true ∧ t = s.endOfReset a role flowin ssn) ∨
    t = s ∨
    s.inReset = false ∧ s.Moves t := by
  by_cases hc : c = .hardReset
  · subst hc
    cases h
    exact .inl rfl
  by_cases he : ∃ a role flowin ssn, c = .endOfHardReset a role flowin ssn
  · obtain ⟨a, role, flowin, ssn, rfl⟩ := he
    simp only [exec, execEndOfHardReset] at h
    split at h
    · cases h; exact .inr (.inl ⟨a, role, flowin, ssn, ‹_›, rfl⟩)
    · cases h; exact .inr (.inr (.inl rfl))
  obtain ⟨f, hf, hm⟩ := exec_eq_event hc (fun a role flowin ssn e => he ⟨a, role, flowin, ssn, e⟩) s
  rw [hf] at h
  cases hr : s.inReset with
  | true => rw [State.event_of_reset hr] at h; cases h; exact .inr (.inr (.inl rfl))
  | false => rw [State.event_of_running hr] at h; cases h; exact .inr (.inr (.inr ⟨rfl, hm⟩))

/-- A step stays, lets one clock period of the running part pass, or is a command, on a state that differs at most in the
model's own queue and counter. -/
theorem step_cases {s t : State} (h : step s = .next t) :
    t = s ∨ s.inReset = false ∧ t = s.pass 1 ∨
    ∃ c pending ties, exec c { s with pending := pending, ties := ties } = .next t := by
  unfold step at h
  split at h
  · unfold State.idle at h
    split at h
    · cases h; exact .inl rfl
    · next hr =>
      split at h
      · cases h; exact .inr (.inl ⟨by simpa using hr, rfl⟩)
      · exact .inr (.inr ⟨_, s.pending, s.ties, h⟩)
      · exact .inr (.inr ⟨_, s.pending, _, h⟩)
  · exact .inr (.inr ⟨_, _, s.ties, h⟩)

/-- What does not depend on the model's own queue and counter, and a hard reset, its end and every move keep, every step
keeps. -/
theorem step_keeps {P : State → Prop} (queue : ∀ s pending ties, P s → P { s with pending := pending, ties := ties })
    (reset : ∀ s, P s → P s.hardReset)
    (resetEnd : ∀ s a role flowin ssn, s.inReset = true → P s → P (s.endOfReset a role flowin ssn))
    (moves : ∀ s t, s.inReset = false → P s → s.Moves t → P t)
    {s t : State} (hs : P s) (h : step s = .next t) : P t := by
  rcases step_cases h with rfl | ⟨hr, rfl⟩ | ⟨c, pending, ties, he⟩
  · exact hs
  · exact moves s _ hr hs (.pass 1)
  · have hq := queue s pending ties hs
    rcases exec_cases he with rfl | ⟨a, role, flowin, ssn, hr, rfl⟩ | rfl | ⟨hr, hm⟩
    · exact reset _ hq
    · exact resetEnd _ a role flowin ssn hr hq
    · exact hq
    · exact moves _ _ hr hq hm

end Sys2Proof.Machine
end

section
/-! Applying frames to the table and offering them to the queue, row by row (R69 to R77). -/

namespace Sys2Proof.Machine

/-! ### A report (Table 4.2) -/

/-- A report that finds no entry of its role creates one and sets TABLE_CHANGED (R72, R73). -/
theorem State.applyReport_of_create {s : State} {r : Report} (h : ∀ e, s.pt.find r.source = some e → e.role ≠ r.role) :
    s.applyReport r = (s.withEntries (putEntry (Entry.created r) s.pt.entries)).setLatch .tableChanged := by
  unfold State.applyReport
  split
  · rfl
  · next e he => exact if_pos (h e he)

/-- A RESTARTED report refreshes its entry with the gap count as it was (R74). -/
theorem State.applyReport_of_restarted {s : State} {r : Report} {e : Entry} (he : s.pt.find r.source = some e)
    (hr : e.role = r.role) (h : r.flags.restarted = true) :
    s.applyReport r = s.withEntries (putEntry { e.refreshed r 0 with gapCount := e.gapCount } s.pt.entries) := by
  simp [State.applyReport, he, hr, h]

/-- A report of the sequence number the entry has last is a duplicate (R75). -/
theorem State.applyReport_of_duplicate {s : State} {r : Report} {e : Entry} (he : s.pt.find r.source = some e)
    (hr : e.role = r.role) (h : r.flags.restarted = false) (hd : (r.sequence - e.lastSequence).toNat = 0) :
    s.applyReport r = s.bump .duplicates := by
  simp [State.applyReport, he, hr, h, hd]

/-- A report 1 to 127 numbers ahead refreshes its entry, the numbers between counted as missed (R75, R76). -/
theorem State.applyReport_of_ahead {s : State} {r : Report} {e : Entry} (he : s.pt.find r.source = some e)
    (hr : e.role = r.role) (h : r.flags.restarted = false) (h1 : 1 ≤ (r.sequence - e.lastSequence).toNat)
    (h127 : (r.sequence - e.lastSequence).toNat ≤ 127) :
    s.applyReport r =
      s.withEntries (putEntry (e.refreshed r ((r.sequence - e.lastSequence).toNat - 1)) s.pt.entries) := by
  simp only [State.applyReport, he, hr, h, ne_eq, not_true_eq_false, Bool.false_eq_true, if_false]
  rw [if_neg (by omega), if_pos h127]

/-- A report 128 numbers ahead or more is rejected (R75). -/
theorem State.applyReport_of_behind {s : State} {r : Report} {e : Entry} (he : s.pt.find r.source = some e)
    (hr : e.role = r.role) (h : r.flags.restarted = false) (hd : 128 ≤ (r.sequence - e.lastSequence).toNat) :
    s.applyReport r = s.bump .seqRejects := by
  simp only [State.applyReport, he, hr, h, ne_eq, not_true_eq_false, Bool.false_eq_true, if_false]
  rw [if_neg (by omega), if_neg (by omega)]

/-- The sequence difference of Table 4.2 in natural numbers. -/
theorem toNat_sequence_sub (a b : Byte) : (a - b).toNat = (a.toNat + 256 - b.toNat) % 256 := by
  rw [BitVec.toNat_sub]
  have := b.isLt
  omega

/-- All that a report does to the entries: they stay, or get an entry of the report's source, of age 0 and FRESH. -/
theorem State.applyReport_entries (r : Report) (s : State) : (s.applyReport r).pt.entries = s.pt.entries ∨
    ∃ e : Entry, e.address = r.source ∧ e.age = 0 ∧ e.state = .fresh ∧
      (s.applyReport r).pt.entries = putEntry e s.pt.entries := by
  cases he : s.pt.find r.source with
  | none => exact .inr ⟨_, rfl, rfl, rfl, by rw [State.applyReport_of_create (by simp [he])]; rfl⟩
  | some e =>
    have ha : e.address = r.source := (PeerTable.find_mem he).2
    by_cases hr : e.role = r.role
    · cases h : r.flags.restarted with
      | true => exact .inr ⟨{ e.refreshed r 0 with gapCount := e.gapCount }, ha, rfl, rfl, by
        rw [State.applyReport_of_restarted he hr h]; rfl⟩
      | false =>
        rcases Nat.eq_zero_or_pos (r.sequence - e.lastSequence).toNat with h0 | h0
        · exact .inl (by rw [State.applyReport_of_duplicate he hr h h0]; rfl)
        · by_cases h127 : (r.sequence - e.lastSequence).toNat ≤ 127
          · exact .inr ⟨e.refreshed r _, ha, rfl, rfl, by
            rw [State.applyReport_of_ahead he hr h h0 h127]; rfl⟩
          · exact .inl (by rw [State.applyReport_of_behind he hr h (by omega)]; rfl)
    · exact .inr ⟨_, rfl, rfl, rfl, by rw [State.applyReport_of_create (by simp [he, hr])]; rfl⟩

/-- What the table finds after an entry is put in. -/
theorem State.find_withEntries_putEntry (e : Entry) (s : State) (a : Nat) :
    (s.withEntries (putEntry e s.pt.entries)).pt.find a = if a = e.address then some e else s.pt.find a :=
  find_putEntry e s.pt.entries s.pt.queue a

theorem State.find_withEntries_putEntry_self {e : Entry} {a : Nat} (h : e.address = a) (s : State) :
    (s.withEntries (putEntry e s.pt.entries)).pt.find a = some e := by
  rw [State.find_withEntries_putEntry, if_pos h.symm]

/-- What the table finds after an entry is dropped. -/
theorem State.find_withEntries_dropEntry (d : Nat) (s : State) (a : Nat) :
    (s.withEntries (dropEntry d s.pt.entries)).pt.find a = if a = d then none else s.pt.find a :=
  find_dropEntry d s.pt.entries s.pt.queue a

/-- A report leaves every other source's entry as it was. -/
theorem State.applyReport_find_of_ne {r : Report} {a : Nat} (s : State) (h : a ≠ r.source) :
    (s.applyReport r).pt.find a = s.pt.find a := by
  rcases State.applyReport_entries r s with hs | ⟨e, ha, -, -, hs⟩
  · simp only [PeerTable.find, hs]
  · have : (s.applyReport r).pt.find a = (s.withEntries (putEntry e s.pt.entries)).pt.find a := by
      simp only [PeerTable.find, hs, State.withEntries_pt_entries]
    rw [this, State.find_withEntries_putEntry, if_neg (ha ▸ h)]

/-- A report leaves all but the entries, the latches and the counters. -/
theorem State.applyReport_eq (r : Report) (s : State) : s.applyReport r =
    { s with
      pt.entries := (s.applyReport r).pt.entries
      sp.latches := (s.applyReport r).sp.latches
      sp.counters := (s.applyReport r).sp.counters } := by
  obtain ⟨es, latches, counters, h⟩ := State.applyReport_frame r s
  rw [h]

/-! ### A notice (R77) -/

theorem State.applyNotice_of_none {s : State} {n : Notice} (h : s.pt.find n.source = none) : s.applyNotice n = s := by
  simp [State.applyNotice, h]

theorem State.applyNotice_of_some {s : State} {n : Notice} {e : Entry} (h : s.pt.find n.source = some e) :
    s.applyNotice n = (s.withEntries (dropEntry n.source s.pt.entries)).setLatch .tableChanged := by
  simp [State.applyNotice, h]

/-- After a notice its source has no entry, and every other source's stands. -/
theorem State.applyNotice_find (n : Notice) (s : State) (a : Nat) :
    (s.applyNotice n).pt.find a = if a = n.source then none else s.pt.find a := by
  cases h : s.pt.find n.source with
  | none =>
    rw [State.applyNotice_of_none h]
    split
    · next ha => rw [ha, h]
    · rfl
  | some e =>
    rw [State.applyNotice_of_some h, State.setLatch_pt, State.find_withEntries_dropEntry]

/-- Settles O46: the rows of Table 4.2 for a report, and R77 for a notice. -/
theorem reportsAndNoticesApplied : Obligations.ReportsAndNoticesApplied := by
  refine ⟨?report, ?notice⟩
  case report =>
    rintro r s t rfl
    refine ⟨fun a ha => s.applyReport_find_of_ne ha, State.applyReport_eq r s, ?create, ?known⟩
    case create =>
      intro h
      simp only [State.applyFrame, State.applyReport_of_create h]
      exact ⟨State.find_withEntries_putEntry_self rfl s, fun l => by simp, rfl⟩
    case known =>
      rintro e d he hr rfl
      have ha : e.address = r.source := (PeerTable.find_mem he).2
      simp only [← toNat_sequence_sub, State.applyFrame]
      cases h : r.flags.restarted with
      | true =>
        rw [State.applyReport_of_restarted he hr h]
        exact ⟨rfl, fun _ => ⟨State.find_withEntries_putEntry_self
          (e := { e.refreshed r 0 with gapCount := e.gapCount }) ha s, rfl⟩, by simp, by simp⟩
      | false =>
        rcases Nat.eq_zero_or_pos (r.sequence - e.lastSequence).toNat with h0 | h0
        · rw [State.applyReport_of_duplicate he hr h h0]
          exact ⟨rfl, fun hd => absurd (hd.resolve_left Bool.false_ne_true).1 (by omega),
            fun _ _ => ⟨rfl, rfl⟩, fun _ hd => by omega⟩
        · by_cases h127 : (r.sequence - e.lastSequence).toNat ≤ 127
          · rw [State.applyReport_of_ahead he hr h h0 h127]
            exact ⟨rfl, fun _ => ⟨State.find_withEntries_putEntry_self (e := e.refreshed r _) ha s, rfl⟩,
              fun _ hd => by omega, fun _ hd => by omega⟩
          · rw [State.applyReport_of_behind he hr h (by omega)]
            exact ⟨rfl, fun hd => absurd (hd.resolve_left Bool.false_ne_true).2 h127,
              fun _ hd => by omega, fun _ _ => ⟨rfl, rfl⟩⟩
  case notice =>
    rintro n s t rfl
    refine ⟨by simp [State.applyFrame, State.applyNotice_find],
      fun a ha => by simp [State.applyFrame, State.applyNotice_find, ha], fun h => State.applyNotice_of_none h, ?_, ?_⟩
    · intro e he l
      simp [State.applyFrame, State.applyNotice_of_some he]
    · simp only [State.applyFrame]
      cases he : s.pt.find n.source with
      | none => rw [State.applyNotice_of_none he]
      | some e => rw [State.applyNotice_of_some he]; rfl

/-! ### The inbound queue (R69, R70) -/

/-- In a queue with one record from each source, replacing in place is replacing every record of that source (R69). -/
theorem replaceInPlace_eq_map {f : Frame} {q : List Frame} (h : (q.map Frame.source).Nodup) :
    replaceInPlace f q = q.map fun x => if x.source = f.source then f else x := by
  induction q with
  | nil => rfl
  | cons x xs ih =>
    obtain ⟨hx, hxs⟩ := List.nodup_cons.mp h
    rw [replaceInPlace, List.map_cons]
    split
    · next he =>
      have hne : ∀ y ∈ xs, y.source ≠ f.source := fun y hy hyf => hx (he.trans hyf.symm ▸ List.mem_map_of_mem hy)
      rw [List.map_congr_left fun y hy => if_neg (hne y hy), List.map_id']
    · rw [ih hxs]

/-- Whether a record of the frame's source waits. -/
theorem any_source_iff {f : Frame} {q : List Frame} :
    q.any (·.source == f.source) = true ↔ f.source ∈ q.map Frame.source := by
  simp [List.any_eq_true]

theorem State.offer_of_waiting {s : State} {f : Frame} (h : f.source ∈ s.pt.queue.map Frame.source) :
    s.offer f = { s with pt.queue := replaceInPlace f s.pt.queue } := if_pos (any_source_iff.mpr h)

theorem State.offer_of_room {s : State} {f : Frame} (h : f.source ∉ s.pt.queue.map Frame.source)
    (h8 : s.pt.queue.length < 8) : s.offer f = { s with pt.queue := s.pt.queue ++ [f] } :=
  (if_neg (mt any_source_iff.mp h)).trans (if_pos h8)

theorem State.offer_of_full {s : State} {f : Frame} (h : f.source ∉ s.pt.queue.map Frame.source)
    (h8 : 8 ≤ s.pt.queue.length) : s.offer f = (s.bump .overruns).setLatch .rxOverrun :=
  (if_neg (mt any_source_iff.mp h)).trans (if_neg (by omega))

/-- The table is open exactly in OPEN (R68). -/
theorem State.tableOpen_iff {s : State} : s.tableOpen = true ↔ s.cu.state = .opened := by
  unfold State.tableOpen
  cases s.cu.state <;> simp

theorem State.route_of_open {s : State} (h : s.tableOpen = true) (f : Frame) : s.route f = s.applyFrame f := if_pos h

theorem State.route_of_closed {s : State} (h : s.tableOpen = false) (f : Frame) : s.route f = s.offer f :=
  if_neg (by simp [h])

/-- Settles O47: the three outcomes of an offer (R69, R70), and the open table (R67). -/
theorem framesOfferedToTheQueue : Obligations.FramesOfferedToTheQueue := by
  intro f s
  refine ⟨State.tableOpen_iff, fun ho => State.route_of_open ho f, fun hc hq => ?_⟩
  rw [State.route_of_closed hc]
  refine ⟨fun hm => ?_, State.offer_of_room, fun hm h8 => ⟨_, State.offer_of_full hm h8, fun l => by simp, rfl⟩⟩
  rw [State.offer_of_waiting hm, replaceInPlace_eq_map hq]

end Sys2Proof.Machine
end

section
/-! The law of the Peer Table and the Inbound Queue (R64, R71, R79) through every step. -/

namespace Sys2Proof.Machine

/-! ### The law in its parts -/

/-- The entries of a lawful table, for a stale_limit and the station's own address (R64, R79). -/
structure EntriesInLaw (limit address : Nat) (es : List Entry) : Prop where
  ascending : es.Pairwise (fun a b => a.address < b.address)
  addressed : ∀ e ∈ es, 1 ≤ e.address ∧ e.address ≤ 32 ∧ e.address ≠ address
  aged : ∀ e ∈ es, e.age < 2 * limit ∧ (e.state = .stale ↔ limit ≤ e.age)

/-- A frame's source is that of another station (R42, R66). -/
def Frame.foreign (address : Nat) (f : Frame) : Prop := 1 ≤ f.source ∧ f.source ≤ 32 ∧ f.source ≠ address

/-- The frames of a lawful queue, for the station's own address (R69, R70). -/
structure QueueInLaw (address : Nat) (q : List Frame) : Prop where
  atMost8 : q.length ≤ 8
  oneEach : (q.map Frame.source).Nodup
  foreign : ∀ f ∈ q, f.foreign address

/-- The law of the table, with its clauses on entries and queue gathered. -/
theorem State.tableLaw_iff {s : State} : s.tableLaw ↔
    EntriesInLaw s.cfg.staleLimit s.sc.address s.pt.entries ∧ QueueInLaw s.sc.address s.pt.queue ∧
    (s.tableOpen = true → s.pt.queue = []) ∧ 2 ≤ s.cfg.staleLimit ∧
    (s.sc.state = .config → s.lu.receiver = .off ∧ s.cu = ⟨none, .opened⟩ ∧ s.pt.entries = []) ∧
    (s.inReset = true → s.sc.state = .config) :=
  ⟨fun ⟨h1, h2, h3, h4, h5, h6, h7, h8, h9, h10⟩ => ⟨⟨h1, h2, h3⟩, ⟨h4, h5, h6⟩, h7, h8, h9, h10⟩,
    fun ⟨⟨h1, h2, h3⟩, ⟨h4, h5, h6⟩, h7, h8, h9, h10⟩ => ⟨h1, h2, h3, h4, h5, h6, h7, h8, h9, h10⟩⟩

theorem EntriesInLaw.nil (limit address : Nat) : EntriesInLaw limit address [] := ⟨.nil, by simp, by simp⟩

theorem QueueInLaw.nil (address : Nat) : QueueInLaw address [] := ⟨by simp, by simp, by simp⟩

/-- In CONFIG table and queue are empty. -/
theorem State.tableLaw.empty_of_config {s : State} (h : s.tableLaw) (hc : s.sc.state = .config) :
    s.pt.entries = [] ∧ s.pt.queue = [] := by
  obtain ⟨-, -, opened, -, config, -⟩ := State.tableLaw_iff.mp h
  obtain ⟨-, hcu, hes⟩ := config hc
  exact ⟨hes, opened (State.tableOpen_iff.mpr (by rw [hcu]))⟩

/-- A station whose cycle timer runs, or whose table is closed, is not in CONFIG. -/
theorem State.tableLaw.runs_of_cycle {s : State} (h : s.tableLaw) (hcu : s.cu ≠ ⟨none, .opened⟩) :
    s.sc.state ≠ .config := by
  obtain ⟨-, -, -, -, config, -⟩ := State.tableLaw_iff.mp h
  exact fun hc => hcu (config hc).2.1

/-! ### The entries -/

/-- Putting in a FRESH entry of age 0 of another station keeps the law of the entries. -/
theorem EntriesInLaw.putEntry {limit address : Nat} {es : List Entry} {e : Entry} (h : EntriesInLaw limit address es)
    (hl : 0 < limit) (ha : 1 ≤ e.address ∧ e.address ≤ 32 ∧ e.address ≠ address) (h0 : e.age = 0)
    (hf : e.state = .fresh) : EntriesInLaw limit address (putEntry e es) where
  ascending := pairwise_putEntry h.ascending
  addressed x hx := (mem_putEntry hx).elim (· ▸ ha) (h.addressed x)
  aged x hx := by
    rcases mem_putEntry hx with rfl | hx
    · simp [h0, hf]; omega
    · exact h.aged x hx

/-- Dropping entries keeps the law of the entries. -/
theorem EntriesInLaw.dropEntry {limit address : Nat} {es : List Entry} (h : EntriesInLaw limit address es) (a : Nat) :
    EntriesInLaw limit address (dropEntry a es) where
  ascending := h.ascending.filter _
  addressed x hx := h.addressed x (List.mem_of_mem_filter hx)
  aged x hx := h.aged x (List.mem_of_mem_filter hx)

/-- One aging pass keeps the law of the entries: an entry grows STALE as its age reaches stale_limit, and goes as it
reaches twice that (R78, R79). -/
theorem EntriesInLaw.passOver {limit address : Nat} {es : List Entry} (h : EntriesInLaw limit address es) :
    EntriesInLaw limit address (passOver limit es) := by
  have older : ∀ x ∈ Machine.passOver limit es, ∃ e ∈ es, x.address = e.address ∧ x.age = e.age + 1 ∧
      e.age + 1 < 2 * limit ∧ x.state = if limit ≤ e.age + 1 then .stale else e.state := by
    intro x hx
    obtain ⟨e, he, hx⟩ := List.mem_filterMap.mp hx
    obtain ⟨hlt, hx⟩ := Option.ite_none_right_eq_some.mp hx
    cases hx
    exact ⟨e, he, rfl, rfl, hlt, rfl⟩
  refine ⟨?_, fun x hx => ?_, fun x hx => ?_⟩
  · refine List.Pairwise.filterMap _ (fun a b hab x hx y hy => ?_) h.ascending
    obtain ⟨-, hx⟩ := Option.ite_none_right_eq_some.mp hx
    obtain ⟨-, hy⟩ := Option.ite_none_right_eq_some.mp hy
    cases hx
    cases hy
    exact hab
  · obtain ⟨e, he, ha, -⟩ := older x hx
    rw [ha]
    exact h.addressed e he
  · obtain ⟨e, he, -, hage, hlt, hstate⟩ := older x hx
    have := h.aged e he
    rw [hstate, hage]
    refine ⟨hlt, ?_⟩
    split
    · simp_all
    · rw [this.2]; omega

/-- Applying a frame of another station keeps the law of the entries (R72 to R77). -/
theorem State.applyFrame_entriesInLaw {limit address : Nat} {f : Frame} {s : State} (hf : f.foreign address)
    (hl : 0 < limit) (h : EntriesInLaw limit address s.pt.entries) :
    EntriesInLaw limit address (s.applyFrame f).pt.entries := by
  cases f with
  | report r =>
    rcases State.applyReport_entries r s with he | ⟨e, ha, h0, hfresh, he⟩
    · exact he ▸ h
    · exact he ▸ h.putEntry hl (ha ▸ hf) h0 hfresh
  | notice n =>
    cases he : s.pt.find n.source with
    | none => rw [State.applyFrame, State.applyNotice_of_none he]; exact h
    | some e => rw [State.applyFrame, State.applyNotice_of_some he]; exact h.dropEntry n.source

/-- So does applying a run of them. -/
theorem State.foldl_applyFrame_entriesInLaw {limit address : Nat} (hl : 0 < limit) {q : List Frame} {s : State}
    (hq : ∀ f ∈ q, f.foreign address) (h : EntriesInLaw limit address s.pt.entries) :
    EntriesInLaw limit address (q.foldl State.applyFrame s).pt.entries := by
  induction q generalizing s with
  | nil => exact h
  | cons f q ih =>
    obtain ⟨hf, hq⟩ := List.forall_mem_cons.mp hq
    exact ih hq (State.applyFrame_entriesInLaw hf hl h)

/-! ### The queue -/

/-- A frame offered to the queue keeps its law (R69, R70). -/
theorem State.offer_queueInLaw {address : Nat} {f : Frame} {s : State} (hf : f.foreign address)
    (h : QueueInLaw address s.pt.queue) : QueueInLaw address (s.offer f).pt.queue := by
  by_cases hm : f.source ∈ s.pt.queue.map Frame.source
  · rw [State.offer_of_waiting hm]
    have hsources := replaceInPlace_sources f s.pt.queue
    refine ⟨?_, hsources ▸ h.oneEach, fun x hx => (mem_replaceInPlace hx).elim (· ▸ hf) (h.foreign x)⟩
    simpa using (congrArg List.length hsources).trans_le (by simpa using h.atMost8)
  · by_cases h8 : s.pt.queue.length < 8
    · rw [State.offer_of_room hm h8]
      refine ⟨by simpa using h8, ?_, fun x hx => ?_⟩
      · simpa [List.nodup_append, h.oneEach] using fun x hx hxf => hm (List.mem_map.mpr ⟨x, hx, hxf⟩)
      · rcases List.mem_append.mp hx with hx | hx
        · exact h.foreign x hx
        · exact List.mem_singleton.mp hx ▸ hf
    · rw [State.offer_of_full hm (by omega)]
      exact h

/-! ### What leaves the law standing -/

/-- What the law reads stands from one state to the next: table, own address, stale_limit, the cycle unit's state, whether
the station is in CONFIG and in reset; and a stopped timer stays stopped, a receiver that is off stays off. -/
structure State.TableStands (s t : State) : Prop where
  pt : t.pt = s.pt
  address : t.sc.address = s.sc.address
  limit : t.cfg.staleLimit = s.cfg.staleLimit
  cycle : t.cu.state = s.cu.state
  timer : s.cu.timer = none → t.cu.timer = none
  receiver : s.lu.receiver = .off → t.lu.receiver = .off
  config : t.sc.state = .config ↔ s.sc.state = .config
  inReset : t.inReset = s.inReset

theorem State.TableStands.refl (s : State) : s.TableStands s := ⟨rfl, rfl, rfl, rfl, id, id, .rfl, rfl⟩

theorem State.TableStands.trans {s t u : State} (h : s.TableStands t) (k : t.TableStands u) : s.TableStands u where
  pt := k.pt.trans h.pt
  address := k.address.trans h.address
  limit := k.limit.trans h.limit
  cycle := k.cycle.trans h.cycle
  timer := k.timer ∘ h.timer
  receiver := k.receiver ∘ h.receiver
  config := k.config.trans h.config
  inReset := k.inReset.trans h.inReset

/-- The law holds where all that it reads stands. -/
theorem State.tableLaw.of_stands {s t : State} (h : s.tableLaw) (k : s.TableStands t) : t.tableLaw := by
  obtain ⟨entries, queue, opened, limit, config, reset⟩ := State.tableLaw_iff.mp h
  refine State.tableLaw_iff.mpr ⟨?_, ?_, fun ho => ?_, k.limit ▸ limit, fun hc => ?_, fun hr => ?_⟩
  · rw [k.limit, k.address, k.pt]; exact entries
  · rw [k.address, k.pt]; exact queue
  · rw [k.pt]
    exact opened (State.tableOpen_iff.mpr (k.cycle ▸ State.tableOpen_iff.mp ho))
  · obtain ⟨hrec, hcu, hes⟩ := config (k.config.mp hc)
    exact ⟨k.receiver hrec, CycleUnit.ext (k.timer (by rw [hcu])) (k.cycle.trans (by rw [hcu])), k.pt ▸ hes⟩
  · exact k.config.mpr (reset (k.inReset ▸ hr))

/-! ### Time, measurement and the valve -/

theorem State.pass_stands (d : Nat) (s : State) : s.TableStands (s.pass d) := by constructor <;> simp

theorem State.conversion_stands (code : BitVec 12) (s : State) : s.TableStands (s.conversion code) := by
  constructor <;> simp [State.conversion]

/-- What a flow capture can do: nothing, or time passes, the FCU moves and FLOW_NOISE may count (R33 to R36). -/
theorem State.flowCapture_cases (v : Word32) (s : State) : s.flowCapture v = s ∨
    ∃ d late f noise, s.flowCapture v = { (s.pass d).flowTimeoutIf late with fcu := f }.bumpIf noise .flowNoise := by
  unfold State.flowCapture
  split
  · exact .inl rfl
  · exact .inr ⟨_, _, _, _, rfl⟩

theorem State.flowCapture_stands (v : Word32) (s : State) : s.TableStands (s.flowCapture v) := by
  rcases s.flowCapture_cases v with h | ⟨d, late, f, noise, h⟩ <;> rw [h]
  · exact .refl s
  · constructor <;> simp

/-- What a flow timeout can do: nothing, or time passes and the FCU moves (R36). -/
theorem State.flowTimeout_cases (s : State) : s.flowTimeout = s ∨
    ∃ d f, s.flowTimeout = { s.pass d with fcu := f } := by
  unfold State.flowTimeout
  split
  · exact .inr ⟨_, _, rfl⟩
  · exact .inl rfl

theorem State.flowTimeout_stands (s : State) : s.TableStands s.flowTimeout := by
  rcases s.flowTimeout_cases with h | ⟨d, f, h⟩ <;> rw [h]
  · exact .refl s
  · constructor <;> simp

theorem State.pulseEnd_stands (s : State) : s.TableStands s.pulseEnd := by
  unfold State.pulseEnd
  split
  · split
    · exact .refl s
    · constructor <;> simp
  · exact .refl s
  · exact .refl s

theorem State.dwellEnd_stands (s : State) : s.TableStands s.dwellEnd := by
  unfold State.dwellEnd
  split
  · constructor <;> simp
  · exact .refl s
  · exact .refl s

theorem State.seekEnd_stands (s : State) : s.TableStands s.seekEnd := by
  unfold State.seekEnd
  split
  · split
    · constructor <;> simp
    · exact .refl s
  · exact .refl s
  · exact .refl s

/-! ### The link -/

theorem State.dominant_stands (ago : Nat) (s : State) : s.TableStands { s with lu := s.lu.dominant ago } := by
  constructor <;> simp

theorem State.nextCharacter_stands (last : Bool) (s : State) : s.TableStands (s.nextCharacter last) := by
  constructor <;> simp [State.nextCharacter]

theorem State.bumpIf_stands (b : Bool) (c : Counter) (s : State) : s.TableStands (s.bumpIf b c) := by
  constructor <;> simp

/-- A receiver that is on may move anywhere. -/
theorem State.receiver_stands {s : State} (h : s.lu.receiver ≠ .off) (r : Receiver) :
    s.TableStands { s with lu.receiver := r } := by
  constructor <;> simp [h]

theorem State.dropFrame_stands {s : State} (h : s.lu.receiver ≠ .off) (own : Bool) : s.TableStands (s.dropFrame own) := by
  constructor <;> simp [State.dropFrame, h]

theorem State.framingFault_stands (s : State) : s.TableStands s.framingFault := by
  refine (s.dominant_stands 0).trans (.trans ?_ (State.nextCharacter_stands false _))
  dsimp only
  split
  · exact .refl _
  · exact .refl _
  · next h => exact State.receiver_stands (h ▸ nofun) _
  · next h => exact State.dropFrame_stands (h ▸ nofun) _

theorem State.idleLine_stands (s : State) : s.TableStands s.idleLine := by
  refine (s.pass_stands (idleClocks - s.lu.quiet)).trans ?_
  unfold State.idleLine
  dsimp only
  split
  · exact .refl _
  · exact .refl _
  · next h => exact State.receiver_stands (h ▸ nofun) _
  · next h => exact (State.receiver_stands (h ▸ nofun) _).trans (State.bumpIf_stands _ _ _)

theorem State.accessGap_stands (s : State) : s.TableStands s.accessGap := by
  rcases s.accessGap_cases with h | ⟨slot, k, gap, o, -, -, h⟩ <;> rw [h]
  · exact .refl s
  · constructor <;> simp

theorem State.frameSent_stands (s : State) : s.TableStands s.frameSent := by
  rcases s.frameSent_cases with h | ⟨o, t, d, -, -, h⟩ <;> rw [h]
  · exact .refl s
  · constructor <;> simp

/-- A receiver that is off stays off through a collision. -/
theorem State.collision_receiver_off {s : State} (h : s.lu.receiver = .off) : s.collision.lu.receiver = .off := by
  cases hs : s.lu.transmitter with
  | idle => rw [State.collision_idle (by simp [hs, Transmitter.isSending])]; exact h
  | waiting slot k gap => rw [State.collision_idle (by simp [hs, Transmitter.isSending])]; exact h
  | sending o t =>
    rcases State.collision_cases hs with ⟨-, e⟩ | ⟨-, -, e⟩ | ⟨-, -, e⟩ <;> rw [e] <;> simp [h, Receiver.unmark]

theorem State.collision_stands (s : State) : s.TableStands s.collision := by
  constructor
  case receiver => exact State.collision_receiver_off
  all_goals simp

@[simp] theorem State.withdraw_lu_receiver (x : Slot) (s : State) : (s.withdraw x).lu.receiver = s.lu.receiver := by
  rw [State.withdraw_lu]
  split <;> simp

theorem State.conflict_stands (s : State) : s.TableStands s.conflict := by
  cases h : s.sc.state
  all_goals constructor <;> simp [State.conflict, h]

/-- A report that passes the format check has the source of its body (R51). -/
theorem reportOfBody_source {source : Nat} {role : Role} {sequence flags mask high low : Byte} {fields : List Byte}
    {r : Report} (h : reportOfBody source role sequence flags mask high low fields = some r) : r.source = source := by
  simp only [reportOfBody, Option.bind_eq_bind, Option.bind_eq_some_iff, Option.ite_none_right_eq_some] at h
  obtain ⟨_, -, _, -, _, -, _, -, _, -, -, h⟩ := h
  cases h
  rfl

/-- The source of a frame that passes the format check is a station address (R51). -/
theorem frameOfBody_source {body : List Byte} {f : Frame} (h : frameOfBody body = some f) :
    1 ≤ f.source ∧ f.source ≤ 32 := by
  unfold frameOfBody at h
  split at h
  · next source _ _ _ =>
    obtain ⟨hs, h⟩ := Option.ite_none_right_eq_some.mp h
    suffices f.source = source.toNat from this ▸ hs
    split at h
    · cases h
    · split at h
      · obtain ⟨-, h⟩ := Option.ite_none_right_eq_some.mp h
        cases h
        rfl
      · obtain ⟨-, h⟩ := Option.ite_none_right_eq_some.mp h
        split at h
        · obtain ⟨r, hr, rfl⟩ := Option.map_eq_some_iff.mp h
          exact reportOfBody_source hr
        · cases h
  · cases h

/-- So is that of a good frame. -/
theorem checkFrame_source {cs : List Byte} {f : Frame} (h : checkFrame cs = .good f) :
    1 ≤ f.source ∧ f.source ≤ 32 := by
  unfold checkFrame at h
  split at h
  · cases h
  · dsimp only at h
    split at h
    · cases h
    · split at h
      · cases h
      · next hf => cases h; exact frameOfBody_source hf

/-- A frame of another station that is routed keeps the law (R67). -/
theorem State.tableLaw.route {s : State} (h : s.tableLaw) (hr : s.sc.state ≠ .config) {f : Frame}
    (hf : f.foreign s.sc.address) : (s.route f).tableLaw := by
  obtain ⟨entries, queue, opened, limit, -, reset⟩ := State.tableLaw_iff.mp h
  cases ho : s.tableOpen with
  | true =>
    rw [State.route_of_open ho]
    refine State.tableLaw_iff.mpr ⟨?_, ?_, fun _ => ?_, ?_, fun hc => ?_, ?_⟩
    · rw [State.applyFrame_cfg, State.applyFrame_sc]
      exact State.applyFrame_entriesInLaw hf (by omega) entries
    · simpa using queue
    · simpa using opened ho
    · simpa using limit
    · exact absurd (by simpa using hc) hr
    · simpa using reset
  | false =>
    rw [State.route_of_closed ho]
    refine State.tableLaw_iff.mpr ⟨?_, ?_, fun hopen => ?_, ?_, fun hc => ?_, ?_⟩
    · simpa using entries
    · rw [State.offer_sc]
      exact State.offer_queueInLaw hf queue
    · rw [State.tableOpen_iff, State.offer_cu, ← State.tableOpen_iff, ho] at hopen
      cases hopen
    · simpa using limit
    · exact absurd (by simpa using hc) hr
    · simpa using reset

/-- A good frame that arrives keeps the law (R66, R67). -/
theorem State.tableLaw.arrive {s : State} (h : s.tableLaw) (hr : s.sc.state ≠ .config) {f : Frame}
    (hf : 1 ≤ f.source ∧ f.source ≤ 32) : (s.arrive f).tableLaw := by
  unfold State.arrive
  split
  · exact h.of_stands s.conflict_stands
  · next hne => exact h.route hr ⟨hf.1, hf.2, hne⟩

/-- A receiver that is on is that of a station out of CONFIG. -/
theorem State.tableLaw.runs_of_receiver {s : State} (h : s.tableLaw) (hon : s.lu.receiver ≠ .off) :
    s.sc.state ≠ .config := by
  obtain ⟨-, -, -, -, config, -⟩ := State.tableLaw_iff.mp h
  exact fun hc => hon (config hc).1

/-- The end of a whole frame keeps the law (R51 to R53). -/
theorem State.tableLaw.finishFrame {s : State} (h : s.tableLaw) (hon : s.lu.receiver ≠ .off) (own : Bool)
    (cs : List Byte) : (s.finishFrame own cs).tableLaw := by
  have hunt := h.of_stands (State.receiver_stands hon .hunt)
  unfold State.finishFrame
  dsimp only
  split
  · exact hunt
  · split
    · exact hunt.of_stands (State.bumpIf_stands true .crcErrors _)
    · exact hunt.of_stands (State.bumpIf_stands true .formatErrors _)
    · next hf =>
      exact (hunt.of_stands (State.bumpIf_stands true .framesAccepted _)).arrive (h.runs_of_receiver hon)
        (checkFrame_source hf)

/-- A character that the receiver takes keeps the law (R49 to R53). -/
theorem State.tableLaw.receive {s : State} (h : s.tableLaw) (c : Byte) : (s.receive c).tableLaw := by
  unfold State.receive
  split
  · exact h
  · exact h
  · next hr =>
    have hon : s.lu.receiver ≠ .off := hr ▸ nofun
    split <;> exact h.of_stands (State.receiver_stands hon _)
  · next hr =>
    have hon : s.lu.receiver ≠ .off := hr ▸ nofun
    split
    · exact h.of_stands (State.dropFrame_stands hon _)
    · split
      · exact h.finishFrame hon _ _
      · exact h.of_stands (State.receiver_stands hon _)

theorem State.tableLaw.character {s : State} (h : s.tableLaw) (c : Byte) : (s.character c).tableLaw :=
  ((h.of_stands (s.dominant_stands _)).receive c).of_stands (State.nextCharacter_stands _ _)

/-! ### The cycle -/

/-- An aging pass keeps the law (R78 to R80). -/
theorem State.tableLaw.agingPass {s : State} (h : s.tableLaw) : s.agingPass.tableLaw := by
  obtain ⟨entries, queue, opened, limit, config, reset⟩ := State.tableLaw_iff.mp h
  refine State.tableLaw_iff.mpr ⟨?_, ?_, fun ho => ?_, ?_, fun hc => ?_, ?_⟩
  · rw [State.agingPass_cfg, State.agingPass_sc, State.agingPass_pt]
    exact entries.passOver
  · simpa using queue
  · rw [State.agingPass_pt_queue]
    exact opened (by simpa [State.tableOpen_iff] using ho)
  · simpa using limit
  · have hc : s.sc.state = .config := by simpa using hc
    obtain ⟨hrec, hcu, hes⟩ := config hc
    simp [hrec, hcu, State.agingPass_pt, hes, passOver]
  · simpa using reset

/-- Closing the table of a running station keeps the law (R68). -/
theorem State.tableLaw.of_closed {s t : State} (h : s.tableLaw) (hr : s.sc.state ≠ .config)
    (hpt : t.pt = s.pt) (hsc : t.sc = s.sc) (hcfg : t.cfg = s.cfg) (hreset : t.inReset = s.inReset)
    (hcu : t.cu.state ≠ .opened) : t.tableLaw := by
  obtain ⟨entries, queue, -, limit, -, reset⟩ := State.tableLaw_iff.mp h
  refine State.tableLaw_iff.mpr ⟨?_, ?_, fun ho => absurd (State.tableOpen_iff.mp ho) hcu, ?_, fun hc => ?_, ?_⟩
  · rw [hcfg, hsc, hpt]; exact entries
  · rw [hsc, hpt]; exact queue
  · rw [hcfg]; exact limit
  · exact absurd (hsc ▸ hc) hr
  · rw [hreset, hsc]; exact reset

/-- The start of a computation keeps the law (R91). -/
theorem State.tableLaw.startComputation {s : State} (h : s.tableLaw) (hr : s.sc.state ≠ .config) :
    s.startComputation.tableLaw :=
  h.of_closed hr (by simp) (by simp) (by simp) (by simp) (by simp)

/-- Opening the table of a running station, with the drain, keeps the law (R68, R71). -/
theorem State.tableLaw.openTable {s : State} (h : s.tableLaw) (hr : s.sc.state ≠ .config) : s.openTable.tableLaw := by
  obtain ⟨entries, queue, -, limit, -, reset⟩ := State.tableLaw_iff.mp h
  refine State.tableLaw_iff.mpr ⟨?_, ?_, fun _ => State.openTable_pt_queue s, ?_, fun hc => ?_, ?_⟩
  · rw [State.openTable_cfg, State.openTable_sc, State.openTable, State.drain_pt_entries]
    exact State.foldl_applyFrame_entriesInLaw (by omega) queue.foreign entries
  · rw [State.openTable_pt_queue]; exact .nil _
  · simpa using limit
  · exact absurd (by simpa using hc) hr
  · simpa using reset

/-- A boundary keeps the law (R88 to R90). -/
theorem State.tableLaw.boundary {s : State} (h : s.tableLaw) : s.boundary.tableLaw := by
  unfold State.boundary
  split
  · exact h
  · exact h
  · next τ ht hcalc =>
    have hr : s.sc.state ≠ .config := h.runs_of_cycle fun hcu => by simp [hcu] at ht
    have hp : (s.pass (s.cfg.cyclePeriod * msClocks - τ)).tableLaw := h.of_stands (s.pass_stands _)
    unfold State.atBoundary
    split
    · exact hp.agingPass.startComputation (by simpa using hr)
    · exact hp
    · exact hp.of_closed hr rfl rfl rfl rfl (by simp)
    · refine (State.tableLaw.agingPass (State.tableLaw.agingPass ?_)).startComputation (by simpa using hr)
      exact hp.of_stands (by constructor <;> simp)

theorem State.commitStarved_stands (b : Bool) (s : State) : s.TableStands (s.commitStarved b) := by
  constructor <;> simp

theorem State.commitPlant_stands (t : Taken) (f : Figures) (s : State) : s.TableStands (s.commitPlant t f) := by
  constructor <;> simp

theorem State.commitCustomer_stands (t : Taken) (f : Figures) (s : State) : s.TableStands (s.commitCustomer t f) := by
  constructor <;> simp

/-- The count step does not take a station into CONFIG or out of it (Table 1.3). -/
theorem State.countStep_config {s : State} : s.countStep.sc.state = .config ↔ s.sc.state = .config := by
  rw [State.countStep_sc]
  cases h : s.sc.state
  case listen => dsimp only; split <;> simp [h]
  case muted => dsimp only; split <;> simp [h]
  all_goals simp [h]

theorem State.countStep_stands (s : State) : s.TableStands s.countStep := by
  constructor
  case config => exact State.countStep_config
  all_goals simp

/-- A computation completes in steps that leave the law standing, and then the table opens (R93). -/
theorem State.complete_stands (t : Taken) (s : State) : ∃ u, s.TableStands u ∧ s.complete t = u.openTable := by
  refine ⟨_, (State.commitStarved_stands (figures s.sc s.cfg t s.pt.entries).starved s).trans
    (.trans ?_ (State.countStep_stands _)), rfl⟩
  split
  · exact State.commitPlant_stands _ _ _
  · exact State.commitCustomer_stands _ _ _

/-- A completion keeps the law (R93). -/
theorem State.tableLaw.completion {s : State} (h : s.tableLaw) : s.completion.tableLaw := by
  unfold State.completion
  split
  · next t ht =>
    have hr : s.sc.state ≠ .config := h.runs_of_cycle fun hcu => by simp [hcu] at ht
    obtain ⟨u, k, e⟩ := State.complete_stands t (s.pass (s.computationClocks - s.cu.timer.getD 0))
    have k := (s.pass_stands _).trans k
    rw [e]
    exact (h.of_stands k).openTable (fun hc => hr (k.config.mp hc))
  · exact h
  · exact h
  · exact h

/-! ### Host commands and resets -/

/-- A stored parameter leaves stale_limit in its range (R4). -/
theorem ConfigSet.two_le_staleLimit_put {c : ConfigSet} {p : Param} {x : Int} (h : 2 ≤ c.staleLimit)
    (hx : p.inRange x = true) : 2 ≤ (c.put p x).staleLimit := by
  cases p
  case staleLimit =>
    simp only [Param.inRange, Bool.and_eq_true, decide_eq_true_eq] at hx
    simp only [ConfigSet.put]
    omega
  all_goals exact h

/-- CONFIGURE leaves all but the configuration set, the channels and the FCU. -/
theorem State.store_frame (p : Param) (x : Int) (s : State) :
    ∃ mu fcu, s.store p x = { s with cfg := s.cfg.put p x, mu := mu, fcu := fcu } := by
  unfold State.store
  dsimp only
  split
  · exact ⟨_, _, rfl⟩
  · exact ⟨_, _, rfl⟩
  · unfold State.flowTimeoutIf
    split <;> exact ⟨_, _, rfl⟩
  · exact ⟨_, _, rfl⟩

/-- CONFIGURE keeps the law: the table is empty in CONFIG (R4). -/
theorem State.tableLaw.store {s : State} (h : s.tableLaw) (hc : s.sc.state = .config) {p : Param} {x : Int}
    (hx : p.inRange x = true) : (s.store p x).tableLaw := by
  obtain ⟨-, queue, opened, limit, config, reset⟩ := State.tableLaw_iff.mp h
  obtain ⟨mu, fcu, e⟩ := s.store_frame p x
  rw [e]
  refine State.tableLaw_iff.mpr ⟨?_, queue, opened, ConfigSet.two_le_staleLimit_put limit hx, config, reset⟩
  dsimp only
  rw [(h.empty_of_config hc).1]
  exact .nil _ _

/-- The drives' part of an entry into LISTEN or QUIET leaves the law standing (R9, R16, R18, R19). -/
theorem State.listenDrives_stands (s : State) : s.TableStands s.listenDrives := by
  unfold State.listenDrives
  split <;> constructor <;> simp

theorem State.quietDrives_stands (s : State) : s.TableStands s.quietDrives := by
  unfold State.quietDrives
  split <;> constructor <;> simp

theorem State.rejoinDrives_stands (s : State) : s.TableStands s.rejoinDrives := by
  unfold State.rejoinDrives
  split
  · constructor <;> simp
  · split
    · exact .refl s
    · constructor <;> simp

theorem State.leaveNetwork_stands {s : State} (hr : s.sc.state ≠ .config) : s.TableStands s.leaveNetwork := by
  refine .trans ?_ (State.quietDrives_stands _)
  split <;> constructor <;> simp [hr]

theorem State.rejoinNetwork_stands {s : State} (hr : s.sc.state ≠ .config) : s.TableStands s.rejoinNetwork := by
  refine .trans ?_ (State.rejoinDrives_stands _)
  constructor <;> simp [hr]

/-- An empty table, open, of a station that runs out of reset, obeys the law. -/
theorem State.tableLaw_of_empty {s : State} (hpt : s.pt = ⟨[], []⟩) (hl : 2 ≤ s.cfg.staleLimit)
    (hr : s.sc.state ≠ .config) (hreset : s.inReset = false) : s.tableLaw :=
  State.tableLaw_iff.mpr ⟨hpt ▸ .nil _ _, hpt ▸ .nil _, fun _ => by rw [hpt], hl, fun hc => absurd hc hr,
    fun h => absurd h (by simp [hreset])⟩

/-- START keeps the law: the table is empty and open (R9). -/
theorem State.tableLaw.startStation {s : State} (h : s.tableLaw) (hreset : s.inReset = false)
    (hc : s.sc.state = .config) : s.startStation.tableLaw := by
  obtain ⟨-, -, -, limit, -, -⟩ := State.tableLaw_iff.mp h
  obtain ⟨hes, hq⟩ := h.empty_of_config hc
  refine State.tableLaw.of_stands (State.tableLaw_of_empty ?_ ?_ ?_ ?_) (State.listenDrives_stands _)
  · exact PeerTable.ext hes hq
  · exact limit
  · simp
  · exact hreset

/-- RESTART keeps the law: it empties and opens the table (R84, R100). -/
theorem State.tableLaw.softRestart {s : State} (h : s.tableLaw) (hreset : s.inReset = false) :
    s.softRestart.tableLaw := by
  obtain ⟨-, -, -, limit, -, -⟩ := State.tableLaw_iff.mp h
  refine State.tableLaw.of_stands (State.tableLaw_of_empty ?_ ?_ ?_ ?_) (State.listenDrives_stands _)
  · rfl
  · simpa using limit
  · simp
  · simpa using hreset

/-- Every host command keeps the law. -/
theorem State.tableLaw.serves {s t : State} (h : s.tableLaw) (hreset : s.inReset = false) (ht : s.Serves t) :
    t.tableLaw := by
  cases ht
  case unchanged => exact h
  case stored p x hc hx => exact h.store hc hx
  case started hc _ => exact h.startStation hreset hc
  case requestSet => exact h
  case availableSet => exact h
  case targetSet => exact h
  case countersCleared => exact h
  case latchesCleared => exact h
  case held hr ho => exact h.of_closed hr rfl rfl rfl rfl (by simp)
  case released hr _ => exact h.openTable hr
  case resumed hr _ => exact h.agingPass.startComputation (by simpa using hr)
  case sought => exact h
  case left hx => exact h.of_stands (State.leaveNetwork_stands (by rintro hc; simp [hc] at hx))
  case rejoined hq => exact h.of_stands (State.rejoinNetwork_stands (by simp [hq]))
  case restarted => exact h.softRestart hreset

/-- Every move keeps the law. -/
theorem State.tableLaw.moves {s t : State} (hreset : s.inReset = false) (h : s.tableLaw) (ht : s.Moves t) :
    t.tableLaw := by
  cases ht
  case stay => exact h
  case pass d => exact h.of_stands (s.pass_stands d)
  case conversion code => exact h.of_stands (s.conversion_stands code)
  case flowCapture v => exact h.of_stands (s.flowCapture_stands v)
  case flowinLow => exact h
  case flowTimeout => exact h.of_stands s.flowTimeout_stands
  case dominant => exact h.of_stands (s.dominant_stands 0)
  case character c => exact h.character c
  case framingFault => exact h.of_stands s.framingFault_stands
  case idleLine => exact h.of_stands s.idleLine_stands
  case accessGap => exact h.of_stands s.accessGap_stands
  case collision => exact h.of_stands s.collision_stands
  case frameSent => exact h.of_stands s.frameSent_stands
  case boundary => exact h.boundary
  case completion => exact h.completion
  case pulseEnd => exact h.of_stands s.pulseEnd_stands
  case dwellEnd => exact h.of_stands s.dwellEnd_stands
  case seekEnd => exact h.of_stands s.seekEnd_stands
  case selected => exact h
  case deselected => exact h
  case answered ht => exact (h.serves hreset ht :)

/-- A hard reset leaves the law (R7). -/
theorem State.hardReset_tableLaw (s : State) : s.hardReset.tableLaw := by
  refine State.tableLaw_iff.mpr ⟨.nil _ _, .nil _, fun _ => rfl, ?_, fun _ => ⟨rfl, rfl, rfl⟩, fun _ => rfl⟩
  exact (by decide : 2 ≤ ConfigSet.defaults.staleLimit)

/-- The end of a hard reset keeps the law: whatever address the straps give, the table is empty (R1). -/
theorem State.tableLaw.endOfReset {s : State} (h : s.tableLaw) (hreset : s.inReset = true) (a : BitVec 5)
    (role flowin ssn : Bool) : (s.endOfReset a role flowin ssn).tableLaw := by
  obtain ⟨-, -, opened, limit, config, reset⟩ := State.tableLaw_iff.mp h
  obtain ⟨hes, hq⟩ := h.empty_of_config (reset hreset)
  exact State.tableLaw_iff.mpr ⟨hes ▸ .nil _ _, hq ▸ .nil _, opened, limit, config, nofun⟩

/-- Settles O11: a hard reset, its end, and every move keep the law. -/
theorem stepKeepsTableLaw : Obligations.StepKeepsTableLaw := fun _ _ hs h =>
  step_keeps (P := State.tableLaw) (fun _ _ _ hq => hq) (fun s _ => s.hardReset_tableLaw)
    (fun _ a role flowin ssn hr hs => hs.endOfReset hr a role flowin ssn) (fun _ _ hr hs hm => hs.moves hr hm) hs h

end Sys2Proof.Machine
end

section
/-! HOLD and RELEASE against the station state and the cycle unit state (R95, R96), with what an opening of the table and an
aging pass change. -/

namespace Sys2Proof.Machine

/-! ### A host command in a select period -/

/-- Out of hard reset and in a select period, the event of a host command is its taking (R7, R168). -/
theorem State.selected.event_portCommand {s : State} (hs : s.selected) (f : State → Reply) :
    s.event (State.portCommand f) = .next (s.taking f) := by
  obtain ⟨running, selecting⟩ := hs
  rw [State.event_of_running running, State.portCommand_of_selected selecting]

theorem exec_hold_of_selected {s : State} (hs : s.selected) : exec .hold s = .next (s.taking replyHold) :=
  hs.event_portCommand replyHold

theorem exec_release_of_selected {s : State} (hs : s.selected) : exec .release s = .next (s.taking replyRelease) :=
  hs.event_portCommand replyRelease

/-- A command for the running states is turned away with STATE in CONFIG (Table 10.1). -/
theorem takenIn_running_of_config {s : State} (h : s.sc.state = .config) (f : State → Reply) :
    takenIn runningStates f s = turnedAway .state s := takenIn_of_not_mem (by simp [h]) f

/-- Elsewhere it passes the state test. -/
theorem takenIn_running_of_runs {s : State} (h : s.sc.state ≠ .config) (f : State → Reply) :
    takenIn runningStates f s = f s := takenIn_of_mem (mem_runningStates.mpr h) f

/-! ### The replies to HOLD (R95) -/

theorem replyHold_of_config {s : State} (h : s.sc.state = .config) : replyHold s = turnedAway .state s :=
  takenIn_running_of_config h _

theorem replyHold_of_opened {s : State} (hr : s.sc.state ≠ .config) (h : s.cu.state = .opened) :
    replyHold s = (.ok, { s with cu.state := .held }) := by
  rw [replyHold, takenIn_running_of_runs hr]
  simp only [h]

theorem replyHold_of_calc {s : State} {k : Taken} (hr : s.sc.state ≠ .config) (h : s.cu.state = .calc k) :
    replyHold s = turnedAway .retry s := by
  rw [replyHold, takenIn_running_of_runs hr]
  simp only [h]

theorem replyHold_of_held {s : State} (hr : s.sc.state ≠ .config) (h : s.cu.state = .held ∨ s.cu.state = .heldPending) :
    replyHold s = (.ok, s) := by
  rw [replyHold, takenIn_running_of_runs hr]
  rcases h with h | h <;> simp only [h]

/-! ### The replies to RELEASE (R96) -/

theorem replyRelease_of_config {s : State} (h : s.sc.state = .config) : replyRelease s = turnedAway .state s :=
  takenIn_running_of_config h _

theorem replyRelease_of_held {s : State} (hr : s.sc.state ≠ .config) (h : s.cu.state = .held) :
    replyRelease s = (.ok, s.openTable) := by
  rw [replyRelease, takenIn_running_of_runs hr]
  simp only [h]

theorem replyRelease_of_heldPending {s : State} (hr : s.sc.state ≠ .config) (h : s.cu.state = .heldPending) :
    replyRelease s = (.ok, s.agingPass.startComputation) := by
  rw [replyRelease, takenIn_running_of_runs hr]
  simp only [h]

theorem replyRelease_of_opened {s : State} (hr : s.sc.state ≠ .config) (h : s.cu.state = .opened) :
    replyRelease s = turnedAway .state s := by
  rw [replyRelease, takenIn_running_of_runs hr]
  simp only [h]

theorem replyRelease_of_calc {s : State} {k : Taken} (hr : s.sc.state ≠ .config) (h : s.cu.state = .calc k) :
    replyRelease s = turnedAway .state s := by
  rw [replyRelease, takenIn_running_of_runs hr]
  simp only [h]

/-! ### An opening of the table (R68, R71) -/

/-- What a run of frames leaves as it is: all but the entries, the latches and the counters. -/
theorem State.foldl_applyFrame_frame (q : List Frame) (s : State) :
    ∃ es latches counters, q.foldl State.applyFrame s =
      { s with pt.entries := es, sp.latches := latches, sp.counters := counters } := by
  induction q generalizing s with
  | nil => exact ⟨_, _, _, rfl⟩
  | cons f q ih =>
    obtain ⟨es, latches, counters, hf⟩ := State.applyFrame_frame f s
    obtain ⟨es', latches', counters', hq⟩ := ih (s.applyFrame f)
    refine ⟨es', latches', counters', ?_⟩
    rw [List.foldl_cons, hq, hf]

/-- A frame neither reads nor moves the cycle unit. -/
theorem State.applyFrame_withCu (c : CycleUnit) (f : Frame) (s : State) :
    ({ s with cu := c } : State).applyFrame f = { s.applyFrame f with cu := c } := by
  obtain ⟨after, changed, duplicate, rejected, hf⟩ := State.applyFrame_shape s.pt.entries f
  rw [hf s rfl, hf { s with cu := c } rfl]
  cases changed <;> cases duplicate <;> cases rejected <;> rfl

/-- A run of frames neither reads nor moves the cycle unit. -/
theorem State.foldl_applyFrame_withCu (c : CycleUnit) (q : List Frame) (s : State) :
    q.foldl State.applyFrame { s with cu := c } = { q.foldl State.applyFrame s with cu := c } := by
  induction q generalizing s with
  | nil => rfl
  | cons f q ih => rw [List.foldl_cons, State.applyFrame_withCu, ih, List.foldl_cons]

/-- An opening applies the queue, oldest place first, empties it and enters OPEN; the timer keeps its count (R68, R71). -/
theorem State.openTable_eq (s : State) : s.openTable =
    { s.pt.queue.foldl State.applyFrame s with pt.queue := [], cu := ⟨s.cu.timer, .opened⟩ } := by
  rw [State.openTable, State.drain, State.foldl_applyFrame_withCu]

/-! ### An aging pass and the computation it precedes (R78, R91) -/

/-- What a pass leaves as it is: all but the table and the latches. -/
theorem State.agingPass_frame (s : State) :
    s.agingPass = { s with pt := s.agingPass.pt, sp.latches := s.agingPass.sp.latches } := by
  apply State.ext
  case sp => apply SupervisoryPort.ext <;> simp
  all_goals simp

/-- A pass and a computation start leave as it is all but the table, the latches, the cycle unit and the FCU. -/
theorem State.agingPass_startComputation_eq (s : State) : s.agingPass.startComputation =
    { s with
      pt := ⟨passOver s.cfg.staleLimit s.pt.entries, s.pt.queue⟩
      cu := ⟨some 0, .calc (s.takeIn s.flowGiven)⟩
      fcu := if s.flowLate then { s.fcu with seenEdge := false, lastPeriod := none, lastFlow := 0 } else s.fcu
      sp.latches := s.agingPass.sp.latches } := by
  rw [State.startComputation_eq, State.takeIn_agingPass, State.flowGiven_agingPass, State.flowLate_agingPass,
    State.agingPass_fcu, ← State.agingPass_pt]
  rw [State.agingPass_frame]

/-! ### The obligations -/

/-- Settles O34: RELEASE in CONFIG and in each cycle unit state (R96). -/
theorem releaseTaken : Obligations.ReleaseTaken := by
  intro s hs
  rw [exec_release_of_selected hs]
  refine ⟨fun hc => ?config, fun hr h => ?opened, fun hr k h => ?computing, fun hr h => ?held, fun hr h => ?heldPending⟩
  case config => rw [State.taking_of_turnedAway (replyRelease_of_config hc)]
  case opened => rw [State.taking_of_turnedAway (replyRelease_of_opened hr h)]
  case computing => rw [State.taking_of_turnedAway (replyRelease_of_calc hr h)]
  case held =>
    obtain ⟨es, latches, counters, hq⟩ := State.foldl_applyFrame_frame s.pt.queue s
    rw [State.taking_of_ok (replyRelease_of_held hr h), State.openTable_eq, hq]
    exact ⟨_, rfl, rfl, rfl, rfl, rfl, rfl, rfl, rfl⟩
  case heldPending =>
    rw [State.taking_of_ok (replyRelease_of_heldPending hr h), State.agingPass_startComputation_eq]
    exact ⟨_, _, rfl, rfl, rfl, rfl, rfl, State.agingPass_latched s, rfl, fun hn => if_neg (by simp [hn]),
      fun hl => if_pos hl⟩

/-- Settles O33: HOLD in CONFIG and in each cycle unit state (R95). -/
theorem holdTaken : Obligations.HoldTaken := by
  intro s hs
  rw [exec_hold_of_selected hs]
  refine ⟨fun hc => ?config, fun hr h => ?opened, fun hr k h => ?computing, fun hr h => ?held⟩
  case config => rw [State.taking_of_turnedAway (replyHold_of_config hc)]
  case opened =>
    rw [State.taking_of_ok (replyHold_of_opened hr h)]
    exact ⟨_, rfl, rfl, rfl⟩
  case computing => rw [State.taking_of_turnedAway (replyHold_of_calc hr h)]
  case held => rw [State.taking_of_ok (replyHold_of_held hr h)]

end Sys2Proof.Machine
end

section
/-! The read commands of the port (R83, R118, R171, R172): each answers a record and leaves the part as it is. -/

namespace Sys2Proof.Machine

/-- Out of hard reset and in a select period, a command that leaves the state as it is has no effect but its answer. -/
theorem State.selected.event_read {s : State} (hs : s.selected) {f : State → Reply} {st : Status} {data : List Byte}
    (h : f s = (⟨st, data⟩, s)) : s.event (State.portCommand f) = .next (s.answered st data) := by
  rw [hs.event_portCommand, State.taking_of_read h]

/-! ### The replies -/

theorem replyReadFigures_of_none {s : State} (h : s.fe.record = none) :
    replyReadFigures s = (⟨.done, [0]⟩, s) := by
  simp only [replyReadFigures, h]

theorem replyReadFigures_of_some {s : State} {r : FiguresRecord} (h : s.fe.record = some r) :
    replyReadFigures s = (⟨.done, r.bytes⟩, s) := by
  simp only [replyReadFigures, h]

theorem replyReadPeer_of_out_of_range {s : State} {a : Byte} (h : a.toNat < 1 ∨ 32 < a.toNat) :
    replyReadPeer a s = (⟨.range, []⟩, s) :=
  if_neg (by omega)

theorem replyReadPeer_of_absent {s : State} {a : Byte} (h1 : 1 ≤ a.toNat) (h32 : a.toNat ≤ 32)
    (h : s.pt.find a.toNat = none) : replyReadPeer a s = (⟨.done, [0]⟩, s) := by
  rw [replyReadPeer, if_pos ⟨h1, h32⟩]
  simp only [h]

theorem replyReadPeer_of_present {s : State} {a : Byte} {e : Entry} (h1 : 1 ≤ a.toNat) (h32 : a.toNat ≤ 32)
    (h : s.pt.find a.toNat = some e) : replyReadPeer a s = (⟨.done, e.bytes⟩, s) := by
  rw [replyReadPeer, if_pos ⟨h1, h32⟩]
  simp only [h]

/-! ### The obligation -/

/-- Settles O31: each read's answer, READ_FIGURES by whether a record is published and READ_PEER by address and entry. -/
theorem readsAnswerRecords : Obligations.ReadsAnswerRecords := by
  intro s hs
  refine ⟨hs.event_read rfl, ?figures, hs.event_read rfl, fun a =>
    ⟨fun h => hs.event_read (replyReadPeer_of_out_of_range h),
      fun h1 h32 h => hs.event_read (replyReadPeer_of_absent h1 h32 (PeerTable.find_eq_none.mpr h)),
      fun e h1 h32 h => hs.event_read (replyReadPeer_of_present h1 h32 h)⟩⟩
  case figures =>
    cases h : s.fe.record with
    | none => exact hs.event_read (replyReadFigures_of_none h)
    | some r => exact hs.event_read (replyReadFigures_of_some h)

end Sys2Proof.Machine
end

section
/-! The figures of a computation (chapter 6): the saturating differences and the deficit, the index as the least of the
candidates, and the available set. -/

namespace Sys2Proof.Machine

/-! ### Differences and the deficit (R102, R104, R106, R107) -/

theorem difference_of_some {x y : Option Int} {a b : Int} (hx : x = some a) (hy : y = some b) :
    difference x y = some (max (-32768) (min 32767 (a - b))) := by
  rw [hx, hy, difference, sat16]

theorem difference_eq_none {x y : Option Int} : difference x y = none ↔ x = none ∨ y = none := by
  cases x <;> cases y <;> simp [difference]

theorem deficitOf_of_design_le {n : Nat} {x : Option Int} {d : Int} (hx : x = some d) (h : (n : Int) ≤ d) :
    deficitOf n x = 0 := by
  rw [hx, deficitOf, if_pos h]

theorem deficitOf_of_lt_design {n : Nat} {x : Option Int} {d : Int} (hx : x = some d) (h : d < n) :
    (deficitOf n x : Int) = min 65535 (n - d) := by
  rw [hx, deficitOf, if_neg (by omega), satU16]
  omega

/-! ### The index (R105, R108, R109) -/

/-- The lesser of two candidates is the minimum in the lexicographic order of margin and address. -/
theorem toLex_lesser (a b : Int × Nat) : toLex (lesser a b) = min (toLex a) (toLex b) := by
  rw [min_comm, lesser, min_def_lt, apply_ite toLex]
  simp only [Prod.Lex.toLex_lt_toLex]

/-- The index search is the library's minimum of a list, in the lexicographic order. -/
theorem map_toLex_indexOf (cs : List (Int × Nat)) : (indexOf cs).map toLex = (cs.map toLex).min? := by
  cases cs with
  | nil => rfl
  | cons c cs =>
    rw [indexOf, List.map_cons, List.min?_cons', Option.map_some, List.foldl_map]
    exact congrArg some (List.foldl_hom toLex fun a b => (toLex_lesser a b).symm).symm

/-- The index is a candidate that no other comes before: none has a lesser margin, and of equals none a lower address. -/
theorem indexOf_eq_some_iff {cs : List (Int × Nat)} {c : Int × Nat} :
    indexOf cs = some c ↔ c ∈ cs ∧ ∀ x ∈ cs, c.1 < x.1 ∨ (c.1 = x.1 ∧ c.2 ≤ x.2) := by
  calc indexOf cs = some c
    _ ↔ (indexOf cs).map toLex = some (toLex c) := by simp
    _ ↔ toLex c ∈ cs.map toLex ∧ ∀ x ∈ cs.map toLex, toLex c ≤ x := by
      rw [map_toLex_indexOf, List.min?_eq_some_iff]
    _ ↔ _ := by
      simp only [List.forall_mem_map, List.mem_map_of_injective toLex.injective, Prod.Lex.toLex_le_toLex]

theorem candidateOf_eq_some_iff {e : Entry} {m : Int} {a : Nat} :
    candidateOf e = some (m, a) ↔ e.role = .customer ∧ e.margin = some m ∧ e.address = a := by
  unfold candidateOf
  split <;> simp_all

theorem isSome_candidateOf (e : Entry) : (candidateOf e).isSome = (e.role == .customer && e.margin.isSome) := by
  unfold candidateOf
  split <;> simp_all

theorem mem_candidates {address a : Nat} {own : Option Int} {es : List Entry} {m : Int} :
    (m, a) ∈ candidates address own es ↔
      (own = some m ∧ a = address) ∨ ∃ e ∈ es, e.role = .customer ∧ e.margin = some m ∧ e.address = a := by
  simp [candidates, ← candidateOf_eq_some_iff, eq_comm (a := a)]

/-- What holds of every candidate holds of the own margin and of the margins of customer entries. -/
theorem forall_mem_candidates {address : Nat} {own : Option Int} {es : List Entry} {P : Int → Nat → Prop} :
    (∀ c ∈ candidates address own es, P c.1 c.2) ↔ (∀ x, own = some x → P x address) ∧
      ∀ e ∈ es, ∀ x, e.role = .customer → e.margin = some x → P x e.address := by
  simp only [Prod.forall, mem_candidates]
  constructor
  · exact fun h => ⟨fun x hx => h x _ (.inl ⟨hx, rfl⟩), fun e he x hr hx => h x _ (.inr ⟨e, he, hr, hx, rfl⟩)⟩
  · rintro ⟨hown, hpeer⟩ x a (⟨hx, rfl⟩ | ⟨e, he, hr, hx, rfl⟩)
    · exact hown x hx
    · exact hpeer e he x hr hx

theorem indexOf_candidates_eq_some_iff {address a : Nat} {own : Option Int} {es : List Entry} {m : Int} :
    indexOf (candidates address own es) = some (m, a) ↔
      ((own = some m ∧ a = address) ∨ ∃ e ∈ es, e.role = .customer ∧ e.margin = some m ∧ e.address = a) ∧
      (∀ x, own = some x → m < x ∨ (m = x ∧ a ≤ address)) ∧
      (∀ e ∈ es, ∀ x, e.role = .customer → e.margin = some x → m < x ∨ (m = x ∧ a ≤ e.address)) := by
  rw [indexOf_eq_some_iff, mem_candidates, forall_mem_candidates (P := fun x b => m < x ∨ (m = x ∧ a ≤ b))]

theorem length_candidates (address : Nat) (own : Option Int) (es : List Entry) :
    (candidates address own es).length =
      oneIf own.isSome + (es.filter fun e => e.role == Role.customer && e.margin.isSome).length := by
  simp only [candidates, List.length_append, List.length_filterMap_eq_countP, isSome_candidateOf,
    List.countP_eq_length_filter]
  cases own <;> rfl

/-! ### The available set (R110 to R112) -/

/-- Whether an entry is that of an available plant (R110). -/
def Entry.availablePlant (e : Entry) : Bool := e.role == .plant && e.state == .fresh && e.flags.available

/-- What the entry of an available plant adds to the set. -/
def Entry.member (e : Entry) : Member := ⟨e.flow, e.weight.getD 0, e.flags.atLimit⟩

theorem Entry.availablePlant_iff {e : Entry} :
    e.availablePlant = true ↔ e.role = .plant ∧ e.state = .fresh ∧ e.flags.available = true := by
  simp [Entry.availablePlant, and_assoc]

theorem memberOf_eq (e : Entry) : memberOf e = if e.availablePlant = true then some e.member else none := by
  simp only [memberOf, Entry.availablePlant_iff, Entry.member]

theorem filterMap_memberOf (es : List Entry) :
    es.filterMap memberOf = (es.filter Entry.availablePlant).map Entry.member := by
  induction es with
  | nil => rfl
  | cons e es ih => by_cases h : e.availablePlant = true <;> simp [memberOf_eq e, h, ih]

theorem PumpMode.running_iff {m : PumpMode} : m.running = true ↔ m = .run ∨ m = .holding ∨ m = .fallback := by
  cases m <;> simp [PumpMode.running]

theorem selfMember_iff {sc : StationController} {k : Taken} :
    selfMember sc k = true ↔ sc.role = .plant ∧ (sc.state = .active ∨ sc.state = .muted) ∧ k.available = true ∧
      (k.mode = .run ∨ k.mode = .holding ∨ k.mode = .fallback) := by
  simp [selfMember, PumpMode.running_iff, and_assoc]

section
variable (sc : StationController) (cfg : ConfigSet) (k : Taken) (es : List Entry)

theorem length_availableSet : (availableSet sc cfg k es).length =
    (es.filter Entry.availablePlant).length + oneIf (selfMember sc k) := by
  rw [availableSet, filterMap_memberOf]
  cases selfMember sc k <;> simp [oneIf]

theorem totalFlow_availableSet : totalFlow (availableSet sc cfg k es) =
    ((es.filter Entry.availablePlant).map fun e => e.flow.getD 0).sum +
      if selfMember sc k = true then k.flow.getD 0 else 0 := by
  rw [availableSet, filterMap_memberOf]
  cases selfMember sc k <;> simp [totalFlow, Entry.member, Function.comp_def, Nat.add_comm]

theorem weightSum_availableSet : weightSum (availableSet sc cfg k es) =
    ((es.filter Entry.availablePlant).map fun e => e.weight.getD 0).sum +
      if selfMember sc k = true then cfg.weight else 0 := by
  rw [availableSet, filterMap_memberOf]
  cases selfMember sc k <;> simp [weightSum, Entry.member, Function.comp_def, Nat.add_comm]

theorem allAtLimit_availableSet_iff : allAtLimit (availableSet sc cfg k es) = true ↔
    (selfMember sc k = true → k.atLimit = true) ∧
      ∀ e ∈ es, e.role = .plant → e.state = .fresh → e.flags.available = true → e.flags.atLimit = true := by
  rw [availableSet, filterMap_memberOf]
  simp only [allAtLimit, Entry.member, List.all_append, List.all_map, Bool.and_eq_true, List.all_eq_true, List.mem_filter,
    Entry.availablePlant_iff, Function.comp_apply, and_imp]
  cases selfMember sc k <;> simp

end

/-! ### The starved condition (R113) -/

theorem starvedBy_iff {index : Option (Int × Nat)} {atLimit : Bool} :
    starvedBy index atLimit = true ↔ (∃ m a, index = some (m, a) ∧ m < 0) ∧ atLimit = true := by
  rcases index with _ | ⟨m, a⟩ <;> simp [starvedBy]

/-! ### The figures together -/

section
variable {sc : StationController} {cfg : ConfigSet} {k : Taken} {es : List Entry}

theorem figures_margin_of_customer (h : sc.role = .customer) :
    (figures sc cfg k es).margin = difference (figures sc cfg k es).dp (some (cfg.dpReq : Int)) := if_pos h

theorem figures_margin_of_plant (h : sc.role = .plant) : (figures sc cfg k es).margin = none := if_neg (by simp [h])

/-- An absent dp leaves no margin in either role. -/
theorem figures_margin_of_dp_none (h : (figures sc cfg k es).dp = none) : (figures sc cfg k es).margin = none := by
  cases hr : sc.role with
  | plant => exact figures_margin_of_plant hr
  | customer => rw [figures_margin_of_customer hr, h, difference]

theorem figures_ownIndex_iff :
    (figures sc cfg k es).ownIndex = true ↔ ∃ m, (figures sc cfg k es).index = some (m, sc.address) := by
  simp [figures, Option.any_eq_true]

theorem figures_starved_iff : (figures sc cfg k es).starved = true ↔
    (∃ m a, (figures sc cfg k es).index = some (m, a) ∧ m < 0) ∧ (figures sc cfg k es).allAtLimit = true := starvedBy_iff

end

/-- Settles O54: each figure by the lemma about what forms it. -/
theorem figuresFormed : Obligations.FiguresFormed := by
  rintro sc cfg k es _ rfl
  refine ⟨fun _ _ => difference_of_some, difference_eq_none.mpr,
    fun _ hr hd => (figures_margin_of_customer hr).trans (difference_of_some hd rfl),
    fun h => h.elim figures_margin_of_plant figures_margin_of_dp_none,
    fun _ _ => difference_of_some, difference_eq_none.mpr,
    congrArg (deficitOf cfg.dtDesign), fun _ => deficitOf_of_design_le, fun _ => deficitOf_of_lt_design,
    fun m a => indexOf_candidates_eq_some_iff, length_candidates _ _ _, figures_ownIndex_iff, selfMember_iff,
    allAtLimit_availableSet_iff sc cfg k es, ?starved, ?available⟩
  case starved => exact figures_starved_iff.trans (and_congr_right' (allAtLimit_availableSet_iff sc cfg k es))
  case available =>
    rintro _ rfl
    exact ⟨length_availableSet sc cfg k es, totalFlow_availableSet sc cfg k es, weightSum_availableSet sc cfg k es⟩

end Sys2Proof.Machine
end

section
/-! The plant law in RUN (chapter 7): its terms in the arithmetic of R127 to R129, its header condition, and the bounds that
make the clamps of R130 and R131 a least and a greatest value. -/

namespace Sys2Proof.Machine

/-! ### Clamps (section 0.6) -/

theorem clamp_eq_max_min {a b : Int} (h : a ≤ b) (x : Int) : clamp a b x = max a (min b x) := by
  unfold clamp
  split
  · omega
  · split <;> omega

/-- Within 0..10000, the natural number that a clamp leaves is the clamped value itself. -/
theorem coe_toNat_clamp_10000 (x : Int) : ((clamp 0 10000 x).toNat : Int) = max 0 (min 10000 x) := by
  rw [clamp_eq_max_min (by decide)]
  omega

/-! ### The terms (R127, R128, R129) -/

theorem plantError_eq (target : Nat) (m : Int) : plantError target m = max (-32768) (min 32767 (target - m)) := rfl

theorem proportional_eq (kp : Nat) (e : Int) : proportional kp e = max (-32768) (min 32767 (e * kp / 64)) := rfl

theorem integralStep_eq (ki : Nat) (e : Int) : integralStep ki e = e * ki / 1024 := rfl

/-- A step is skipped in either of the two cases of R128, and else applied and clamped. -/
theorem coe_nextIntegral (cfg : ConfigSet) (t : Taken) (e : Int) : (nextIntegral cfg t e : Int) =
    if (0 < integralStep cfg.ki e ∧ t.atLimit = true) ∨ (integralStep cfg.ki e < 0 ∧ t.speed = cfg.speedMin) then
      (t.integral : Int)
    else max 0 (min 10000 (t.integral + integralStep cfg.ki e)) := by
  by_cases hup : 0 < integralStep cfg.ki e ∧ t.atLimit = true
  · rw [nextIntegral, if_pos hup, if_pos (.inl hup)]
  · by_cases hdown : integralStep cfg.ki e < 0 ∧ t.speed = cfg.speedMin
    · rw [nextIntegral, if_neg hup, if_pos hdown, if_pos (.inr hdown)]
    · rw [nextIntegral, if_neg hup, if_neg hdown, if_neg (not_or.mpr ⟨hup, hdown⟩), coe_toNat_clamp_10000]

/-- A plant without a flow of its own forms no share term (R129). -/
theorem shareTerm_of_no_flow {t : Taken} (h : t.flow = none) (cfg : ConfigSet) (f : Figures) : shareTerm cfg t f = 0 := by
  rw [shareTerm, h]

/-- A plant with a flow of its own forms it when it is one of at least two that are available (R129). -/
theorem shareTerm_of_flow {t : Taken} {own : Nat} (h : t.flow = some own) (cfg : ConfigSet) (f : Figures) :
    shareTerm cfg t f = if 2 ≤ f.availableCount ∧ f.selfAvailable = true then
      max (-32768) (min 32767 (max (-32768) (min 32767
        (((min 65535 (f.totalFlow * cfg.weight / f.weightSum) : Nat) : Int) - own)) * cfg.ks / 256)) else 0 := by
  rw [shareTerm, h]
  rfl

/-! ### The header condition (R130, R132) -/

theorem headerHigh_iff {cfg : ConfigSet} {dp : Option Int} :
    headerHigh cfg dp = true ↔ ∃ d, dp = some d ∧ (cfg.hdrDpMax : Int) < d := by
  simp [headerHigh, Option.any_eq_true]

theorem headerHigh_eq_false_iff {cfg : ConfigSet} {dp : Option Int} :
    headerHigh cfg dp = false ↔ ∀ d, dp = some d → d ≤ cfg.hdrDpMax := by
  simp [headerHigh, Option.any_eq_false]

/-- While the header is high, AT_LIMIT holds at any speed (R132). -/
theorem atLimitAt_of_headerHigh {cfg : ConfigSet} {dp : Option Int} (h : headerHigh cfg dp = true) (speed : Nat) :
    atLimitAt cfg dp speed = true := by
  simp [atLimitAt, h]

/-! ### The speed (R130, R131) -/

/-- The sum of the three terms, clamped to the speed limits (R130, step 1). -/
def runDemand (cfg : ConfigSet) (t : Taken) (f : Figures) (m : Int) : Int :=
  let e := plantError t.mTarget m
  max (cfg.speedMin : Int) (min (cfg.speedMax : Int)
    (sat16 (proportional cfg.kp e + nextIntegral cfg t e + shareTerm cfg t f)))

theorem runDemand_nonneg (cfg : ConfigSet) (t : Taken) (f : Figures) (m : Int) : 0 ≤ runDemand cfg t f m :=
  (Int.natCast_nonneg _).trans (le_max_left _ _)

/-- A ramped speed that is not negative before the ramp is none after it. -/
theorem coe_toNat_rampFrom {x : Int} (h : 0 ≤ x) (cfg : ConfigSet) (speed : Nat) :
    ((rampFrom cfg speed x).toNat : Int) = max ((speed : Int) - cfg.ramp) (min ((speed : Int) + cfg.ramp) x) := by
  rw [rampFrom, clamp_eq_max_min (by omega)]
  omega

section
variable {cfg : ConfigSet} {t : Taken}

/-- The speed that the RUN law commits: the demand, limited to the speed taken in while the header is high, and ramped. -/
theorem runLaw_speed (h : cfg.speedOk t.speed) (f : Figures) (m : Int) : (runLaw cfg t f m).speed =
    (rampFrom cfg t.speed (if headerHigh cfg f.dp then min (runDemand cfg t f m) t.speed else runDemand cfg t f m)).toNat := by
  obtain ⟨hmin, hmax⟩ := h
  rw [runDemand, ← clamp_eq_max_min (by omega)]
  rfl

/-- With the header within its limit, or no dp, the speed is the ramped demand (R130, R131). -/
theorem runLaw_speed_of_header_ok {f : Figures} (h : cfg.speedOk t.speed) (hdp : headerHigh cfg f.dp = false) (m : Int) :
    ((runLaw cfg t f m).speed : Int) =
      max ((t.speed : Int) - cfg.ramp) (min ((t.speed : Int) + cfg.ramp) (runDemand cfg t f m)) := by
  rw [runLaw_speed h, hdp, if_neg Bool.false_ne_true, coe_toNat_rampFrom (runDemand_nonneg cfg t f m)]

/-- While the header is high the speed may fall but not rise, so that the upper end of the ramp never acts (R130, R131). -/
theorem runLaw_speed_of_headerHigh {f : Figures} (h : cfg.speedOk t.speed) (hdp : headerHigh cfg f.dp = true) (m : Int) :
    ((runLaw cfg t f m).speed : Int) = max ((t.speed : Int) - cfg.ramp) (min (runDemand cfg t f m) t.speed) := by
  have hnonneg := runDemand_nonneg cfg t f m
  rw [runLaw_speed h, hdp, if_pos rfl, coe_toNat_rampFrom (by omega)]
  omega

end

/-- In ACTIVE and MUTED a computation that takes in RUN, available and with an index, is the RUN law's (R123). -/
theorem plantLaw_of_run {x : StationState} {t : Taken} {f : Figures} {m : Int} {a : Nat} (hx : x = .active ∨ x = .muted)
    (hmode : t.mode = .run) (hav : t.available = true) (hindex : f.index = some (m, a)) (cfg : ConfigSet) :
    plantLaw x cfg t f = runLaw cfg t f m := by
  have hpump : pumpLaw cfg t f = runLaw cfg t f m := by simp only [pumpLaw, hmode, hav, hindex, if_true]
  rcases hx with rfl | rfl <;> exact hpump

/-! ### The obligation -/

/-- Settles O57: the demand is the clamped sum of the three terms, and the speed is what the header limit and the ramp leave
of it. -/
theorem runLawFormed : Obligations.RunLawFormed := by
  intro x cfg k f r m e p i sh u a hx hmode hav hindex hr hok he hp hi hsh hu
  rw [← plantError_eq] at he
  rw [← proportional_eq] at hp
  rw [← integralStep_eq, ← coe_nextIntegral] at hi
  replace hsh : sh = shareTerm cfg k f := by
    cases hflow : k.flow with
    | none => rw [hsh, hflow, shareTerm_of_no_flow hflow]
    | some own => rw [hsh, hflow, shareTerm_of_flow hflow]
  replace hu : u = runDemand cfg k f m := by rw [hu, hp, hi, hsh, he, runDemand, sat16]
  replace hr : r = runLaw cfg k f m := hr.trans (plantLaw_of_run hx hmode hav hindex cfg)
  rw [hi, he, hu, hr]
  refine ⟨rfl, fun hdp => ?within, fun d hd hlt => ?above⟩
  case within => exact runLaw_speed_of_header_ok hok (headerHigh_eq_false_iff.mpr hdp) m
  case above =>
    have hdp : headerHigh cfg f.dp = true := headerHigh_iff.mpr ⟨d, hd, hlt⟩
    exact ⟨runLaw_speed_of_headerHigh hok hdp m, atLimitAt_of_headerHigh hdp _⟩

end Sys2Proof.Machine
end

section
/-! The law of the yield cap and the stored request (R138, R139, R144) through every step: all but a boundary, a completion and
a host command leaves what the law reads, and the cap law keeps the cap between cap_floor and 10000. -/

namespace Sys2Proof.Machine

/-! ### What leaves the Figures Engine alone -/

/-- The Figures Engine and what a computation works from stand from one state to the next: the configuration set, the kept
values, the cycle unit's state, and whether the station is in CONFIG. -/
structure State.EngineStands (s t : State) : Prop where
  cfg : t.cfg = s.cfg
  fe : t.fe = s.fe
  cycle : t.cu.state = s.cu.state
  config : t.sc.state = .config ↔ s.sc.state = .config

theorem State.EngineStands.refl (s : State) : s.EngineStands s := ⟨rfl, rfl, rfl, .rfl⟩

theorem State.EngineStands.trans {s t u : State} (h : s.EngineStands t) (k : t.EngineStands u) : s.EngineStands u where
  cfg := k.cfg.trans h.cfg
  fe := k.fe.trans h.fe
  cycle := k.cycle.trans h.cycle
  config := k.config.trans h.config

/-- The link, the FCU and the Valve Drive are no part of it. -/
theorem State.link_engineStands (l : LinkUnit) (s : State) : s.EngineStands { s with lu := l } := ⟨rfl, rfl, rfl, .rfl⟩

theorem State.flow_engineStands (f : FlowCaptureUnit) (s : State) : s.EngineStands { s with fcu := f } :=
  ⟨rfl, rfl, rfl, .rfl⟩

theorem State.valve_engineStands (v : ValveDrive) (s : State) : s.EngineStands { s with vd := v } :=
  ⟨rfl, rfl, rfl, .rfl⟩

theorem State.pass_engineStands (d : Nat) (s : State) : s.EngineStands (s.pass d) := ⟨rfl, rfl, rfl, .rfl⟩

theorem State.bumpIf_engineStands (b : Bool) (c : Counter) (s : State) : s.EngineStands (s.bumpIf b c) := by
  constructor <;> simp

theorem State.setLatch_engineStands (l : Latch) (s : State) : s.EngineStands (s.setLatch l) := ⟨rfl, rfl, rfl, .rfl⟩

theorem State.agingPass_engineStands (s : State) : s.EngineStands s.agingPass := by
  constructor <;> simp

theorem State.conversion_engineStands (code : BitVec 12) (s : State) : s.EngineStands (s.conversion code) := by
  constructor <;> simp [State.conversion]

theorem State.flowCapture_engineStands (v : Word32) (s : State) : s.EngineStands (s.flowCapture v) := by
  rcases s.flowCapture_cases v with h | ⟨d, late, f, noise, h⟩ <;> rw [h]
  · exact .refl s
  · constructor <;> simp

theorem State.flowTimeout_engineStands (s : State) : s.EngineStands s.flowTimeout := by
  rcases s.flowTimeout_cases with h | ⟨d, f, h⟩ <;> rw [h]
  · exact .refl s
  · exact (s.pass_engineStands d).trans (State.flow_engineStands f _)

theorem State.pulseEnd_engineStands (s : State) : s.EngineStands s.pulseEnd := by
  unfold State.pulseEnd
  split
  · split
    · exact .refl s
    · exact (s.pass_engineStands _).trans (State.valve_engineStands _ _)
  · exact .refl s
  · exact .refl s

theorem State.dwellEnd_engineStands (s : State) : s.EngineStands s.dwellEnd := by
  unfold State.dwellEnd
  split
  · exact (s.pass_engineStands _).trans (State.valve_engineStands _ _)
  · exact .refl s
  · exact .refl s

theorem State.seekEnd_engineStands (s : State) : s.EngineStands s.seekEnd := by
  unfold State.seekEnd
  split
  · split
    · exact (s.pass_engineStands _).trans (State.valve_engineStands _ _)
    · exact .refl s
  · exact .refl s
  · exact .refl s

theorem State.accessGap_engineStands (s : State) : s.EngineStands s.accessGap := by
  rcases s.accessGap_cases with h | ⟨slot, k, gap, o, -, -, h⟩ <;> rw [h]
  · exact .refl s
  · exact (s.pass_engineStands _).trans (State.link_engineStands _ _)

theorem State.frameSent_engineStands (s : State) : s.EngineStands s.frameSent := by
  rcases s.frameSent_cases with h | ⟨o, t, d, -, -, h⟩ <;> rw [h]
  · exact .refl s
  · exact (s.pass_engineStands d).trans (State.link_engineStands _ _)

theorem State.collision_engineStands (s : State) : s.EngineStands s.collision := by
  constructor <;> simp

theorem State.idleLine_engineStands (s : State) : s.EngineStands s.idleLine := by
  refine (s.pass_engineStands (idleClocks - s.lu.quiet)).trans ?_
  unfold State.idleLine
  dsimp only
  split
  · exact .refl _
  · exact .refl _
  · exact State.link_engineStands _ _
  · exact (State.link_engineStands _ _).trans (State.bumpIf_engineStands _ _ _)

theorem State.dropFrame_engineStands (own : Bool) (s : State) : s.EngineStands (s.dropFrame own) := by
  constructor <;> simp [State.dropFrame]

theorem State.framingFault_engineStands (s : State) : s.EngineStands s.framingFault := by
  refine (State.link_engineStands (s.lu.dominant 0) s).trans (.trans ?_ (State.link_engineStands _ _))
  dsimp only
  split
  · exact .refl _
  · exact .refl _
  · exact State.link_engineStands _ _
  · exact State.dropFrame_engineStands _ _

theorem State.conflict_engineStands (s : State) : s.EngineStands s.conflict := by
  cases h : s.sc.state
  all_goals constructor <;> simp [State.conflict, h]

theorem State.arrive_engineStands (f : Frame) (s : State) : s.EngineStands (s.arrive f) := by
  unfold State.arrive
  split
  · exact s.conflict_engineStands
  · constructor <;> simp

theorem State.finishFrame_engineStands (own : Bool) (cs : List Byte) (s : State) : s.EngineStands (s.finishFrame own cs) := by
  refine (State.link_engineStands { s.lu with receiver := .hunt } s).trans ?_
  unfold State.finishFrame
  dsimp only
  split
  · exact .refl _
  · split
    · exact State.bumpIf_engineStands true _ _
    · exact State.bumpIf_engineStands true _ _
    · exact (State.bumpIf_engineStands true _ _).trans (State.arrive_engineStands _ _)

theorem State.receive_engineStands (c : Byte) (s : State) : s.EngineStands (s.receive c) := by
  unfold State.receive
  split
  · exact .refl s
  · exact .refl s
  · split <;> exact State.link_engineStands _ s
  · split
    · exact s.dropFrame_engineStands _
    · split
      · exact s.finishFrame_engineStands _ _
      · exact State.link_engineStands _ s

theorem State.character_engineStands (c : Byte) (s : State) : s.EngineStands (s.character c) :=
  (State.link_engineStands (s.lu.dominant (tailClocks c)) s).trans
    ((State.receive_engineStands c _).trans (State.link_engineStands _ _))

/-- Only a boundary, a completion and a host command reach the Figures Engine (R91, R93, R168). -/
theorem State.Moves.engine_cases {s t : State} (h : s.Moves t) :
    s.EngineStands t ∨ t = s.boundary ∨ t = s.completion ∨ ∃ u r, s.Serves u ∧ t = u.deselect.answer r := by
  cases h
  case boundary => exact .inr (.inl rfl)
  case completion => exact .inr (.inr (.inl rfl))
  case answered u r hu => exact .inr (.inr (.inr ⟨u, r, hu, rfl⟩))
  all_goals refine .inl ?_
  case stay => exact .refl s
  case pass d => exact s.pass_engineStands d
  case conversion code => exact s.conversion_engineStands code
  case flowCapture v => exact s.flowCapture_engineStands v
  case flowTimeout => exact s.flowTimeout_engineStands
  case character c => exact s.character_engineStands c
  case framingFault => exact s.framingFault_engineStands
  case idleLine => exact s.idleLine_engineStands
  case accessGap => exact s.accessGap_engineStands
  case collision => exact s.collision_engineStands
  case frameSent => exact s.frameSent_engineStands
  case pulseEnd => exact s.pulseEnd_engineStands
  case dwellEnd => exact s.dwellEnd_engineStands
  case seekEnd => exact s.seekEnd_engineStands
  all_goals exact ⟨rfl, rfl, rfl, .rfl⟩

/-! ### The cap law (Table 8.1) -/

/-- A cap within its bounds. -/
abbrev ConfigSet.capOk (c : ConfigSet) (cap : Nat) : Prop := c.capFloor ≤ cap ∧ cap ≤ 10000

/-- Relaxing, standing and yielding all keep the cap within its bounds (R141 to R144). -/
theorem capLaw_capOk {cfg : ConfigSet} {cap : Nat} (h : cfg.capOk cap) (f : Figures) : cfg.capOk (capLaw cfg cap f) := by
  obtain ⟨hfloor, htop⟩ := h
  unfold capLaw
  split
  · exact ⟨by omega, by omega⟩
  · split
    · exact ⟨hfloor, htop⟩
    · exact ⟨by omega, by omega⟩

/-- So does the work of a customer in every station state (R140). -/
theorem customerLaw_capOk {cfg : ConfigSet} {k : Taken} (h : cfg.capOk k.cap) (x : StationState) (request : Nat)
    (f : Figures) : cfg.capOk (customerLaw x cfg k request f).cap := by
  cases x
  case active => exact capLaw_capOk h f
  case muted => exact capLaw_capOk h f
  all_goals exact h

/-- In CONFIG it leaves the cap taken in. -/
theorem customerLaw_config_cap (cfg : ConfigSet) (k : Taken) (request : Nat) (f : Figures) :
    (customerLaw .config cfg k request f).cap = k.cap := rfl

/-! ### The law of the cap and the request -/

/-- What the law reads: the configuration set, the kept values, the computation in progress, and that the station has not
entered CONFIG. -/
theorem State.yieldLaw.of_eq {s t : State} (h : s.yieldLaw) (hcfg : t.cfg = s.cfg) (hfe : t.fe = s.fe)
    (hcu : t.cu.state = s.cu.state) (hc : t.sc.state = .config → s.sc.state = .config) : t.yieldLaw := by
  obtain ⟨floor, top, request, taken, config⟩ := h
  unfold State.yieldLaw
  rw [hcfg, hfe, hcu]
  exact ⟨floor, top, request, taken, config ∘ hc⟩

theorem State.yieldLaw.of_engineStands {s t : State} (h : s.yieldLaw) (k : s.EngineStands t) : t.yieldLaw :=
  h.of_eq k.cfg k.fe k.cycle k.config.mp

/-- With no computation in progress the law is about the kept values alone. -/
theorem State.yieldLaw_of_idle {s : State} (hcu : s.cu.state.taken = none) (hcap : s.cfg.capOk s.fe.cap)
    (hrequest : s.fe.request ≤ 10000) (hconfig : s.sc.state = .config → s.fe.cap = 10000) : s.yieldLaw :=
  ⟨hcap.1, hcap.2, hrequest, by simp [hcu], hconfig⟩

/-- A computation takes in the cap and a request within its bounds (R91). -/
theorem State.yieldLaw.startComputation {s : State} (h : s.yieldLaw) : s.startComputation.yieldLaw := by
  obtain ⟨floor, top, request, -, config⟩ := h
  rw [State.startComputation_eq]
  refine ⟨floor, top, request, fun k hk => ?_, config⟩
  obtain rfl : s.takeIn s.flowGiven = k := Option.some.inj hk
  exact ⟨rfl, request⟩

/-- An aging pass keeps the law: it is about the Peer Table (R78). -/
theorem State.yieldLaw.agingPass {s : State} (h : s.yieldLaw) : s.agingPass.yieldLaw :=
  h.of_engineStands s.agingPass_engineStands

/-- What a boundary does in each cycle unit state keeps the law (Table 5.2). -/
theorem State.yieldLaw.atBoundary {s : State} (h : s.yieldLaw) : s.atBoundary.yieldLaw := by
  have ⟨floor, top, request, _, config⟩ := h
  unfold State.atBoundary
  split
  · exact h.agingPass.startComputation
  · exact h
  · exact State.yieldLaw_of_idle rfl ⟨floor, top⟩ request config
  · have hlatch := h.of_engineStands (s.setLatch_engineStands .holdOverrun)
    exact (State.yieldLaw.agingPass hlatch.agingPass).startComputation

/-- A boundary keeps the law (R88 to R90). -/
theorem State.yieldLaw.boundary {s : State} (h : s.yieldLaw) : s.boundary.yieldLaw := by
  unfold State.boundary
  split
  · exact h
  · exact h
  · exact (h.of_engineStands (s.pass_engineStands _)).atBoundary

/-- A customer's completion commits the cap of its law (R93, R140). -/
@[simp] theorem State.commitCustomer_fe_cap (s : State) (t : Taken) (f : Figures) :
    (s.commitCustomer t f).fe.cap = (customerLaw s.sc.state s.cfg t s.fe.request f).cap := by
  simp [State.commitCustomer]

/-- Opening the table keeps the law: no computation is then in progress (R68). -/
theorem State.yieldLaw_openTable {s : State} (hcap : s.cfg.capOk s.fe.cap) (hrequest : s.fe.request ≤ 10000)
    (hconfig : s.sc.state = .config → s.fe.cap = 10000) : s.openTable.yieldLaw :=
  State.yieldLaw_of_idle (by rw [State.openTable_cu_state]; rfl) (by simpa using hcap) (by simpa using hrequest)
    (by simpa using hconfig)

/-- The completion of a computation that took in the cap in force keeps the law: a plant leaves the cap, and a customer
commits the work of its law on it, which in CONFIG is the cap itself (R93, R140, R144). -/
theorem State.yieldLaw.complete {s : State} {k : Taken} (h : s.yieldLaw) (hk : k.cap = s.fe.cap) :
    (s.complete k).yieldLaw := by
  obtain ⟨floor, top, request, -, config⟩ := h
  unfold State.complete
  dsimp only
  rw [State.commitStarved_sc]
  cases s.sc.role with
  | plant =>
    refine State.yieldLaw_openTable ?_ ?_ ?_
    · simpa using ⟨floor, top⟩
    · simpa using request
    · simpa [State.countStep_config] using config
  | customer =>
    refine State.yieldLaw_openTable ?_ ?_ fun hc => ?_
    · simpa using customerLaw_capOk (by rw [hk]; exact ⟨floor, top⟩) _ _ _
    · simpa using request
    · have hc : s.sc.state = .config := by simpa [State.countStep_config] using hc
      simpa [hc, customerLaw_config_cap, hk] using config hc

/-- A completion keeps the law (R93). -/
theorem State.yieldLaw.completion {s : State} (h : s.yieldLaw) : s.completion.yieldLaw := by
  have ⟨_, _, _, taken, _⟩ := h
  unfold State.completion
  split
  · next k hk => exact (h.of_engineStands (s.pass_engineStands _)).complete (taken k (by rw [hk]; rfl)).1
  all_goals exact h

/-! ### Host commands -/

/-- A stored parameter is cap_floor, within its range, or leaves cap_floor (R4). -/
theorem ConfigSet.capFloor_put {c : ConfigSet} {p : Param} {x : Int} (h : c.capFloor ≤ 10000) (hx : p.inRange x = true) :
    (c.put p x).capFloor ≤ 10000 := by
  cases p
  case capFloor =>
    simp only [Param.inRange, Bool.and_eq_true, decide_eq_true_eq] at hx
    simp only [ConfigSet.put]
    omega
  all_goals exact h

/-- CONFIGURE keeps the law: in CONFIG the cap is 10000, which no cap_floor is above (R4, R138). -/
theorem State.yieldLaw.store {s : State} (h : s.yieldLaw) (hc : s.sc.state = .config) {p : Param} {x : Int}
    (hx : p.inRange x = true) : (s.store p x).yieldLaw := by
  obtain ⟨floor, top, request, taken, config⟩ := h
  have hcap := config hc
  obtain ⟨mu, fcu, e⟩ := s.store_frame p x
  rw [e]
  exact ⟨hcap ▸ ConfigSet.capFloor_put (by omega) hx, top, request, taken, config⟩

/-- An entry into LISTEN reaches of the drives the pump mode, the holding count and the Valve Drive (R9, R19). -/
theorem State.listenDrives_frame (s : State) : ∃ mode count vd,
    s.listenDrives = { s with fe.mode := mode, fe.holdingCount := count, vd := vd } := by
  unfold State.listenDrives
  split <;> exact ⟨_, _, _, rfl⟩

/-- REJOIN reaches the same of the drives (R18). -/
theorem State.rejoinDrives_frame (s : State) : ∃ mode count vd,
    s.rejoinDrives = { s with fe.mode := mode, fe.holdingCount := count, vd := vd } := by
  unfold State.rejoinDrives
  repeat' split
  all_goals exact ⟨_, _, _, rfl⟩

/-- An entry into QUIET reaches the pump mode and the Valve Drive (R16). -/
theorem State.quietDrives_frame (s : State) : ∃ mode vd, s.quietDrives = { s with fe.mode := mode, vd := vd } := by
  unfold State.quietDrives
  split <;> exact ⟨_, _, rfl⟩

/-- None of that is read by the law. -/
theorem State.yieldLaw.listenDrives {s : State} (h : s.yieldLaw) : s.listenDrives.yieldLaw := by
  obtain ⟨mode, count, vd, e⟩ := s.listenDrives_frame
  rw [e]; exact h

theorem State.yieldLaw.rejoinDrives {s : State} (h : s.yieldLaw) : s.rejoinDrives.yieldLaw := by
  obtain ⟨mode, count, vd, e⟩ := s.rejoinDrives_frame
  rw [e]; exact h

theorem State.yieldLaw.quietDrives {s : State} (h : s.yieldLaw) : s.quietDrives.yieldLaw := by
  obtain ⟨mode, vd, e⟩ := s.quietDrives_frame
  rw [e]; exact h

/-- START keeps the law (R9). -/
theorem State.yieldLaw.startStation {s : State} (h : s.yieldLaw) : s.startStation.yieldLaw := by
  unfold State.startStation
  exact State.yieldLaw.listenDrives (h.of_eq rfl rfl rfl nofun)

/-- LEAVE keeps the law (R14 to R16). -/
theorem State.yieldLaw.leaveNetwork {s : State} (h : s.yieldLaw) : s.leaveNetwork.yieldLaw := by
  unfold State.leaveNetwork
  dsimp only
  refine State.yieldLaw.quietDrives (h.of_eq ?_ ?_ ?_ nofun)
  all_goals split <;> simp

/-- REJOIN keeps the law (R14, R18). -/
theorem State.yieldLaw.rejoinNetwork {s : State} (h : s.yieldLaw) : s.rejoinNetwork.yieldLaw := by
  unfold State.rejoinNetwork
  exact State.yieldLaw.rejoinDrives (h.of_eq (by simp) (by simp) (by simp) nofun)

/-- RESTART sets the cap to 10000 and discards the computation in progress (R19, R100, R138). -/
theorem State.yieldLaw.softRestart {s : State} (h : s.yieldLaw) : s.softRestart.yieldLaw := by
  obtain ⟨floor, top, request, -, -⟩ := h
  unfold State.softRestart
  refine (State.yieldLaw_of_idle rfl ⟨?_, le_rfl⟩ ?_ fun _ => rfl).listenDrives
  · simpa using floor.trans top
  · simpa using request

/-- Every host command keeps the law. -/
theorem State.yieldLaw.serves {s t : State} (h : s.yieldLaw) (ht : s.Serves t) : t.yieldLaw := by
  have ⟨floor, top, request, taken, config⟩ := h
  cases ht
  case unchanged => exact h
  case stored p x hc hx => exact h.store hc hx
  case started => exact h.startStation
  case requestSet v _ => exact ⟨floor, top, min_le_left _ _, taken, config⟩
  case availableSet => exact h
  case targetSet => exact h
  case countersCleared => exact h
  case latchesCleared => exact h
  case held => exact State.yieldLaw_of_idle rfl ⟨floor, top⟩ request config
  case released => exact State.yieldLaw_openTable ⟨floor, top⟩ request config
  case resumed => exact h.agingPass.startComputation
  case sought => exact h
  case left => exact h.leaveNetwork
  case rejoined => exact h.rejoinNetwork
  case restarted => exact h.softRestart

/-! ### Steps -/

/-- Every move keeps the law. -/
theorem State.yieldLaw.moves {s t : State} (h : s.yieldLaw) (ht : s.Moves t) : t.yieldLaw := by
  rcases ht.engine_cases with k | rfl | rfl | ⟨u, r, hu, rfl⟩
  · exact h.of_engineStands k
  · exact h.boundary
  · exact h.completion
  · exact (h.serves hu :)

/-- A hard reset leaves the law: the cap is 10000 and the request 0 (R7, R138). -/
theorem State.hardReset_yieldLaw (s : State) : s.hardReset.yieldLaw :=
  State.yieldLaw_of_idle rfl (by decide : ConfigSet.defaults.capOk 10000) (Nat.zero_le _) fun _ => rfl

/-- Settles O16: a hard reset, its end, and every move keep the law. That cap_floor lies in its range is checked where it is
stored, so the law of the configuration set is not needed. -/
theorem stepKeepsYieldLaw : Obligations.StepKeepsYieldLaw := fun _ _ ⟨_, hs⟩ h =>
  step_keeps (P := State.yieldLaw) (fun _ _ _ hq => hq) (fun s _ => s.hardReset_yieldLaw)
    (fun _ _ _ _ _ _ hs => hs) (fun _ _ _ hs hm => hs.moves hm) hs h

end Sys2Proof.Machine
end

section
/-! READ_COUNTERS and ACK_LATCHES (R174, R177): the counters answered and cleared, the latches acknowledged by mask. -/

namespace Sys2Proof.Machine

/-- Out of hard reset and in a select period, a command leaves what its reply leaves, with the reply's answer. -/
theorem State.selected.event_reply {s t : State} (hs : s.selected) {f : State → Reply} {st : Status} {data : List Byte}
    (h : f s = (⟨st, data⟩, t)) : s.event (State.portCommand f) = .next (t.answered st data) := by
  rw [hs.event_portCommand, State.taking, h]
  rfl

/-! ### The replies to READ_COUNTERS (R177) -/

theorem replyReadCounters_zero (s : State) : replyReadCounters 0 s = (⟨.done, s.sp.counters.bytes⟩, s) :=
  if_pos rfl

theorem replyReadCounters_one (s : State) :
    replyReadCounters 1 s = (⟨.done, s.sp.counters.bytes⟩, { s with sp.counters := Counters.zero }) := by
  rw [replyReadCounters, if_neg (by decide), if_pos rfl]

theorem replyReadCounters_of_ne {o : Byte} (h0 : o ≠ 0) (h1 : o ≠ 1) (s : State) :
    replyReadCounters o s = (⟨.range, []⟩, s) := by
  rw [replyReadCounters, if_neg h0, if_neg h1, turnedAway]

/-! ### The latch set (R174, R175) -/

/-- The mask has a bit for every latch. -/
theorem Latch.bit_lt (l : Latch) : l.bit < 8 := by cases l <;> decide

/-- Every bit of the mask is a latch's. -/
theorem Latch.exists_bit_eq : ∀ k < 8, ∃ l : Latch, l.bit = k
  | 0, _ => ⟨.addressConflict, rfl⟩
  | 1, _ => ⟨.txAbandoned, rfl⟩
  | 2, _ => ⟨.rxOverrun, rfl⟩
  | 3, _ => ⟨.sensorAbsent, rfl⟩
  | 4, _ => ⟨.starvedEntered, rfl⟩
  | 5, _ => ⟨.indexLost, rfl⟩
  | 6, _ => ⟨.holdOverrun, rfl⟩
  | 7, _ => ⟨.tableChanged, rfl⟩

/-- The eight latches are all there are (R173). -/
theorem Latch.mem_list (l : Latch) : l ∈ [Latch.addressConflict, .txAbandoned, .rxOverrun, .sensorAbsent,
    .starvedEntered, .indexLost, .holdOverrun, .tableChanged] := by
  cases l <;> decide

/-- A latch set without the latches of a mask holds those that the mask does not name. -/
theorem Latch.getLsbD_and_not (l : Latch) (latches mask : BitVec 8) :
    (latches &&& ~~~mask).getLsbD l.bit = (latches.getLsbD l.bit && !mask.getLsbD l.bit) := by
  simp [l.bit_lt]

/-- ATTN is low exactly when no latch is set: the bits of the latch set are the latches, and no others. -/
theorem State.attn_eq_false_iff (s : State) : s.attn = false ↔ ∀ l, s.latched l = false := by
  have empty_iff : s.attn = false ↔ s.sp.latches = 0 := by simp [State.attn]
  rw [empty_iff]
  constructor
  · intro empty l
    simp [State.latched, empty]
  · intro clear
    refine BitVec.eq_of_getLsbD_eq fun k hk => ?_
    obtain ⟨l, rfl⟩ := Latch.exists_bit_eq k hk
    simpa [State.latched] using clear l

/-- ATTN is high while any latch is set (R175). -/
theorem State.attn_eq_true_iff (s : State) : s.attn = true ↔ ∃ l, s.latched l = true := by
  simpa using not_congr s.attn_eq_false_iff

/-! ### The obligation -/

/-- Settles O32: READ_COUNTERS by its option, and ACK_LATCHES latch by latch, with ATTN after it. -/
theorem countersReadAndLatchesAcknowledged : Obligations.CountersReadAndLatchesAcknowledged := by
  refine ⟨fun o s hs => ⟨?keep, ?clear, ?refuse⟩, fun m s hs => ?acknowledge⟩
  case keep =>
    rintro rfl
    exact hs.event_reply (replyReadCounters_zero s)
  case clear =>
    rintro rfl
    exact hs.event_reply (replyReadCounters_one s)
  case refuse =>
    intro h0 h1
    exact hs.event_reply (replyReadCounters_of_ne h0 h1 s)
  case acknowledge =>
    refine ⟨_, hs.event_reply (f := replyAckLatches m) rfl, fun l => l.getLsbD_and_not s.sp.latches m, ?attn, rfl⟩
    simp only [Latch.mem_list, true_and, ← State.attn_eq_true_iff, Bool.decide_eq_true]

end Sys2Proof.Machine
end

section
/-! The moves of the running part, by the unit they work in, and what each leaves as it is: a move lets time pass, or does not,
and then touches the measurement units, or the link with the table and the latches, or the valve, and nothing else. -/

namespace Sys2Proof.Machine

/-! ### The moves by unit -/

/-- Time passes, or does not. -/
inductive State.Waits (s : State) : State → Prop
  | none : s.Waits s
  | pass (d : Nat) : s.Waits (s.pass d)

/-- What the Measurement Unit and the Flow Capture Unit do (chapter 2). -/
inductive State.Measures (s : State) : State → Prop
  | conversion (code : BitVec 12) : s.Measures (s.conversion code)
  | flowCapture (v : Word32) : s.Measures (s.flowCapture v)
  | flowinLow : s.Measures s.flowinLow
  | flowTimeout : s.Measures s.flowTimeout

/-- What the loop link does (chapter 3). -/
inductive State.Links (s : State) : State → Prop
  | dominant : s.Links { s with lu := s.lu.dominant 0 }
  | character (c : Byte) : s.Links (s.character c)
  | framingFault : s.Links s.framingFault
  | idleLine : s.Links s.idleLine
  | accessGap : s.Links s.accessGap
  | collision : s.Links s.collision
  | frameSent : s.Links s.frameSent

/-- What the Valve Drive does of itself (chapter 9). -/
inductive State.Actuates (s : State) : State → Prop
  | pulseEnd : s.Actuates s.pulseEnd
  | dwellEnd : s.Actuates s.dwellEnd
  | seekEnd : s.Actuates s.seekEnd

/-- What the port and the cycle do: a select period begins or ends, a boundary and a completion come, and a host command is
served and answered (chapters 5 and 10). -/
inductive State.Governs (s : State) : State → Prop
  | selected : s.Governs { s with sp.select := some [], sp.ssnHigh := false }
  | deselected : s.Governs s.deselect
  | boundary : s.Governs s.boundary
  | completion : s.Governs s.completion
  | answered {t : State} (r : Response) : s.Serves t → s.Governs (t.deselect.answer r)

/-- Every move is of one of these kinds. -/
theorem State.Moves.kinds {s t : State} (h : s.Moves t) :
    s.Waits t ∨ s.Measures t ∨ s.Links t ∨ s.Actuates t ∨ s.Governs t := by
  cases h
  case stay => exact .inl .none
  case pass d => exact .inl (.pass d)
  case conversion code => exact .inr (.inl (.conversion code))
  case flowCapture v => exact .inr (.inl (.flowCapture v))
  case flowinLow => exact .inr (.inl .flowinLow)
  case flowTimeout => exact .inr (.inl .flowTimeout)
  case dominant => exact .inr (.inr (.inl .dominant))
  case character c => exact .inr (.inr (.inl (.character c)))
  case framingFault => exact .inr (.inr (.inl .framingFault))
  case idleLine => exact .inr (.inr (.inl .idleLine))
  case accessGap => exact .inr (.inr (.inl .accessGap))
  case collision => exact .inr (.inr (.inl .collision))
  case frameSent => exact .inr (.inr (.inl .frameSent))
  case pulseEnd => exact .inr (.inr (.inr (.inl .pulseEnd)))
  case dwellEnd => exact .inr (.inr (.inr (.inl .dwellEnd)))
  case seekEnd => exact .inr (.inr (.inr (.inl .seekEnd)))
  case boundary => exact .inr (.inr (.inr (.inr .boundary)))
  case completion => exact .inr (.inr (.inr (.inr .completion)))
  case selected => exact .inr (.inr (.inr (.inr .selected)))
  case deselected => exact .inr (.inr (.inr (.inr .deselected)))
  case answered r hr => exact .inr (.inr (.inr (.inr (.answered r hr))))

/-! ### What each kind leaves as it is -/

/-- A latch reaches the latches alone. -/
theorem State.setLatchIf_eq (b : Bool) (l : Latch) (s : State) :
    s.setLatchIf b l = { s with sp.latches := (s.setLatchIf b l).sp.latches } := by cases b <;> rfl

/-- A counter reaches the counters alone. -/
theorem State.bumpIf_eq (b : Bool) (c : Counter) (s : State) :
    s.bumpIf b c = { s with sp.counters := (s.bumpIf b c).sp.counters } := by cases b <;> rfl

/-- A flow timeout reaches the Flow Capture Unit alone. -/
theorem State.flowTimeoutIf_eq (late : Bool) (s : State) :
    s.flowTimeoutIf late = { s with fcu := (s.flowTimeoutIf late).fcu } := by
  unfold State.flowTimeoutIf
  split <;> rfl

/-- Measuring reaches, after time has passed, the two measurement units, the latches and the counters. -/
theorem State.Measures.frame {s t : State} (h : s.Measures t) : ∃ u mu fcu latches counters, s.Waits u ∧
    t = { u with mu := mu, fcu := fcu, sp.latches := latches, sp.counters := counters } := by
  cases h
  case conversion code =>
    exact ⟨s.pass (conversionClocks - s.mu.timer), _, _, _, _, .pass _, State.setLatchIf_eq _ _ _⟩
  case flowCapture v =>
    rcases s.flowCapture_cases v with h | ⟨d, late, f, noise, h⟩ <;> rw [h]
    · exact ⟨s, _, _, _, _, .none, rfl⟩
    · rw [State.bumpIf_eq, State.flowTimeoutIf_eq]
      exact ⟨_, _, f, _, _, .pass d, rfl⟩
  case flowinLow => exact ⟨s, _, _, _, _, .none, rfl⟩
  case flowTimeout =>
    rcases s.flowTimeout_cases with h | ⟨d, f, h⟩ <;> rw [h]
    · exact ⟨s, _, _, _, _, .none, rfl⟩
    · exact ⟨_, _, f, _, _, .pass d, rfl⟩

/-- A move of the station state on the link: none, or into MUTED from ACTIVE (R12). -/
abbrev StationState.Mutes (x y : StationState) : Prop := y = x ∨ x = .active ∧ y = .muted

/-- What a frame or a level on the line reaches, with the station state it leaves. -/
inductive State.LinkReaches (s : State) : State → Prop
  | mk (lu : LinkUnit) (pt : PeerTable) (x : StationState) (mute : Nat) (latches : BitVec 8) (counters : Counters) :
    s.sc.state.Mutes x →
    s.LinkReaches { s with
      lu := lu, pt := pt, sc.state := x, sc.muteCount := mute, sp.latches := latches, sp.counters := counters }

theorem State.LinkReaches.refl (s : State) : s.LinkReaches s := .mk s.lu s.pt _ s.sc.muteCount _ _ (.inl rfl)

theorem State.LinkReaches.trans {s t u : State} (h : s.LinkReaches t) (k : t.LinkReaches u) : s.LinkReaches u := by
  obtain ⟨_, _, x, _, _, _, hx⟩ := h
  obtain ⟨lu, pt, y, mute, latches, counters, hy⟩ := k
  refine .mk lu pt y mute latches counters ?_
  dsimp only [StationState.Mutes] at hx hy ⊢
  grind

theorem State.link_reaches (l : LinkUnit) (s : State) : s.LinkReaches { s with lu := l } :=
  .mk l s.pt _ s.sc.muteCount _ _ (.inl rfl)

theorem State.bumpIf_reaches (b : Bool) (c : Counter) (s : State) : s.LinkReaches (s.bumpIf b c) := by
  cases b
  · exact .refl s
  · exact .mk s.lu s.pt _ s.sc.muteCount _ _ (.inl rfl)

theorem State.setLatch_reaches (l : Latch) (s : State) : s.LinkReaches (s.setLatch l) :=
  .mk s.lu s.pt _ s.sc.muteCount _ _ (.inl rfl)

theorem State.applyFrame_reaches (f : Frame) (s : State) : s.LinkReaches (s.applyFrame f) := by
  obtain ⟨es, latches, counters, h⟩ := State.applyFrame_frame f s
  rw [h]
  exact .mk s.lu _ _ s.sc.muteCount _ _ (.inl rfl)

theorem State.route_reaches (f : Frame) (s : State) : s.LinkReaches (s.route f) := by
  unfold State.route
  split
  · exact s.applyFrame_reaches f
  · rcases State.offer_cases f s with h | ⟨h, -⟩ | h <;> rw [h] <;>
      exact .mk s.lu _ _ s.sc.muteCount _ _ (.inl rfl)

theorem State.withdraw_reaches (x : Slot) (s : State) : s.LinkReaches (s.withdraw x) :=
  (s.link_reaches _).trans (.trans (State.bumpIf_reaches _ _ _) (State.bumpIf_reaches _ _ _))

/-- An address conflict moves the station state from ACTIVE alone, into MUTED (R12). -/
theorem State.conflict_reaches (s : State) : s.LinkReaches s.conflict := by
  refine .trans (.trans (s.bumpIf_reaches true .conflicts) (State.setLatch_reaches .addressConflict _)) ?_
  unfold State.conflict
  dsimp only
  split
  · next h =>
    refine (State.withdraw_reaches .report _).trans ?_
    rw [← State.withdraw_sc _ .report]
    exact .mk _ _ .muted 8 _ _ (.inr ⟨by simpa using h, rfl⟩)
  · exact .mk _ _ _ 8 _ _ (.inl rfl)
  · exact .refl _
  · exact .refl _
  · exact .refl _

theorem State.finishFrame_reaches (own : Bool) (cs : List Byte) (s : State) : s.LinkReaches (s.finishFrame own cs) := by
  refine (s.link_reaches { s.lu with receiver := .hunt }).trans ?_
  unfold State.finishFrame
  dsimp only
  split
  · exact .refl _
  · split
    · exact State.bumpIf_reaches true _ _
    · exact State.bumpIf_reaches true _ _
    · refine .trans (State.bumpIf_reaches true .framesAccepted _) ?_
      unfold State.arrive
      split
      · exact State.conflict_reaches _
      · exact State.route_reaches _ _

theorem State.dropFrame_reaches (own : Bool) (s : State) : s.LinkReaches (s.dropFrame own) :=
  (s.link_reaches _).trans (State.bumpIf_reaches _ _ _)

theorem State.receive_reaches (c : Byte) (s : State) : s.LinkReaches (s.receive c) := by
  unfold State.receive
  split
  · exact .refl s
  · exact .refl s
  · split <;> exact s.link_reaches _
  · split
    · exact s.dropFrame_reaches _
    · split
      · exact s.finishFrame_reaches _ _
      · exact s.link_reaches _

theorem State.character_reaches (c : Byte) (s : State) : s.LinkReaches (s.character c) :=
  (s.link_reaches (s.lu.dominant (tailClocks c))).trans ((State.receive_reaches c _).trans (State.link_reaches _ _))

theorem State.framingFault_reaches (s : State) : s.LinkReaches s.framingFault := by
  refine (s.link_reaches (s.lu.dominant 0)).trans (.trans ?_ (State.link_reaches _ _))
  dsimp only
  split
  · exact .refl _
  · exact .refl _
  · exact State.link_reaches _ _
  · exact State.dropFrame_reaches _ _

theorem State.collision_reaches (s : State) : s.LinkReaches s.collision := by
  obtain ⟨r, x, p, n, b, latches, counters, h⟩ := s.collision_frame
  rw [h]
  exact .mk _ s.pt _ s.sc.muteCount _ _ (.inl rfl)

/-- The link reaches, after time has passed, the Link Unit, the table, the latches and the counters, and of the Station
Controller the state and the mute count. -/
theorem State.Links.frame {s t : State} (h : s.Links t) : ∃ u, s.Waits u ∧ u.LinkReaches t := by
  cases h
  case dominant => exact ⟨s, .none, s.link_reaches _⟩
  case character c => exact ⟨s, .none, s.character_reaches c⟩
  case framingFault => exact ⟨s, .none, s.framingFault_reaches⟩
  case idleLine =>
    refine ⟨_, .pass (idleClocks - s.lu.quiet), ?_⟩
    unfold State.idleLine
    dsimp only
    split
    · exact .refl _
    · exact .refl _
    · exact State.link_reaches _ _
    · exact (State.link_reaches _ _).trans (State.bumpIf_reaches _ _ _)
  case accessGap =>
    rcases s.accessGap_cases with h | ⟨slot, k, gap, o, -, -, h⟩ <;> rw [h]
    · exact ⟨s, .none, .refl s⟩
    · exact ⟨_, .pass _, State.link_reaches _ _⟩
  case collision => exact ⟨s, .none, s.collision_reaches⟩
  case frameSent =>
    rcases s.frameSent_cases with h | ⟨o, t, d, -, -, h⟩ <;> rw [h]
    · exact ⟨s, .none, .refl s⟩
    · exact ⟨_, .pass d, State.link_reaches _ _⟩

/-- The valve reaches, after time has passed, itself. -/
theorem State.Actuates.frame {s t : State} (h : s.Actuates t) : ∃ u vd, s.Waits u ∧ t = { u with vd := vd } := by
  cases h
  case pulseEnd =>
    unfold State.pulseEnd
    split
    · split
      · exact ⟨s, _, .none, rfl⟩
      · exact ⟨_, _, .pass _, rfl⟩
    · exact ⟨s, _, .none, rfl⟩
    · exact ⟨s, _, .none, rfl⟩
  case dwellEnd =>
    unfold State.dwellEnd
    split
    · exact ⟨_, _, .pass _, rfl⟩
    · exact ⟨s, _, .none, rfl⟩
    · exact ⟨s, _, .none, rfl⟩
  case seekEnd =>
    unfold State.seekEnd
    split
    · split
      · exact ⟨_, _, .pass _, rfl⟩
      · exact ⟨s, _, .none, rfl⟩
    · exact ⟨s, _, .none, rfl⟩
    · exact ⟨s, _, .none, rfl⟩

/-! ### Commands other than a hard reset -/

/-- What a command other than HARD_RESET can do: end a hard reset, nothing, or a move of the running part. -/
theorem exec_cases_of_ne {c : Instr} {s t : State} (hc : c ≠ .hardReset) (h : exec c s = .next t) :
    (∃ a role flowin ssn, c = .endOfHardReset a role flowin ssn ∧ s.inReset = true ∧
      t = s.endOfReset a role flowin ssn) ∨
    t = s ∨
    s.inReset = false ∧ s.Moves t := by
  by_cases he : ∃ a role flowin ssn, c = .endOfHardReset a role flowin ssn
  · obtain ⟨a, role, flowin, ssn, rfl⟩ := he
    simp only [exec, execEndOfHardReset] at h
    split at h
    · cases h; exact .inl ⟨a, role, flowin, ssn, rfl, ‹_›, rfl⟩
    · cases h; exact .inr (.inl rfl)
  obtain ⟨f, hf, hm⟩ := exec_eq_event hc (fun a role flowin ssn e => he ⟨a, role, flowin, ssn, e⟩) s
  rw [hf] at h
  cases hr : s.inReset with
  | true => rw [State.event_of_reset hr] at h; cases h; exact .inr (.inl rfl)
  | false => rw [State.event_of_running hr] at h; cases h; exact .inr (.inr ⟨rfl, hm⟩)

end Sys2Proof.Machine
end

section
/-! The law of the speed command and the integral (R128, R131) through every step, and the ramp between two successive speed
commands (R131). -/

namespace Sys2Proof.Machine

/-! ### Kept pump values -/

/-- What the law says of a pump mode, a speed and an integral under a configuration set. -/
structure ConfigSet.PumpOk (c : ConfigSet) (mode : PumpMode) (speed integral : Nat) : Prop where
  bounded : speed = 0 ∨ c.speedOk speed
  integral : integral ≤ 10000
  running : mode.running = true → c.speedOk speed
  stopped : mode = .stopped → speed = 0

/-- The law of the speed command, with its clauses on kept and taken values gathered. -/
theorem State.speedLaw_iff {s : State} : s.speedLaw ↔
    s.cfg.PumpOk s.fe.mode s.fe.speed s.fe.integral ∧ s.pd.command = s.fe.speed ∧
    (∀ k ∈ s.cu.state.taken, k.speed = s.fe.speed ∧ s.cfg.PumpOk k.mode k.speed k.integral) ∧
    (∀ k ∈ s.cu.state.taken, k.integral = s.fe.integral) ∧
    s.cfg.speedMax ≤ 10000 ∧
    (s.sc.state.runs → s.cfg.speedMin ≤ s.cfg.fallbackSpeed ∧ s.cfg.fallbackSpeed ≤ s.cfg.speedMax) ∧
    (s.sc.state = .config → s.cu = ⟨none, .opened⟩ ∧ s.fe.mode = .stopped ∧ s.fe.speed = 0) ∧
    (s.inReset = true → s.sc.state = .config) := by
  constructor
  · rintro ⟨bounded, command, integral, running, stopped, taken, max, fallback, config, reset⟩
    refine ⟨⟨bounded, integral, running, stopped⟩, command, fun k hk => ?_, fun k hk => (taken k hk).2.1, max, fallback,
      config, reset⟩
    obtain ⟨hs, hi, hrun, hstop⟩ := taken k hk
    exact ⟨hs, hs ▸ bounded, hi ▸ integral, hrun, hstop⟩
  · rintro ⟨ok, command, taken, integrals, max, fallback, config, reset⟩
    refine ⟨ok.bounded, command, ok.integral, ok.running, ok.stopped, fun k hk => ?_, max, fallback, config, reset⟩
    obtain ⟨hs, hok⟩ := taken k hk
    exact ⟨hs, integrals k hk, hok.running, hok.stopped⟩

section
variable {c : ConfigSet} {mode : PumpMode} {speed integral : Nat}

/-- A mode that neither drives the pump by the law nor is STOPPED asks nothing more of the speed. -/
theorem ConfigSet.PumpOk.free (h : c.PumpOk mode speed integral) {other : PumpMode} (hrun : other.running = false)
    (hstop : other ≠ .stopped) : c.PumpOk other speed integral :=
  ⟨h.bounded, h.integral, fun hr => absurd (hrun ▸ hr) Bool.false_ne_true, fun hs => absurd hs hstop⟩

/-- A pump at a speed within the limits is in order in every mode but STOPPED. -/
theorem ConfigSet.PumpOk.of_speedOk (h : c.speedOk speed) (hi : integral ≤ 10000) (hstop : mode ≠ .stopped) :
    c.PumpOk mode speed integral :=
  ⟨.inr h, hi, fun _ => h, fun hs => absurd hs hstop⟩

/-- A pump that stands is in order in every mode that does not drive it. -/
theorem ConfigSet.PumpOk.of_zero (hi : integral ≤ 10000) (hrun : mode.running = false) : c.PumpOk mode 0 integral :=
  ⟨.inl rfl, hi, fun hr => absurd (hrun ▸ hr) Bool.false_ne_true, fun _ => rfl⟩

/-- Entering ACTIVE keeps the pump in order (R121). -/
theorem ConfigSet.PumpOk.modeOnActive (h : c.PumpOk mode speed integral) (available : Bool) :
    c.PumpOk (modeOnActive speed available mode) speed integral := by
  unfold Machine.modeOnActive
  split
  · next hpos =>
    have hok : c.speedOk speed := h.bounded.resolve_left (by omega)
    split <;> exact .of_speedOk hok h.integral (by simp)
  · next hpos =>
    obtain rfl : speed = 0 := by omega
    split
    · exact h
    · exact .of_zero h.integral rfl

/-- So does entering QUIET (R16). -/
theorem ConfigSet.PumpOk.modeOnQuiet (h : c.PumpOk mode speed integral) : c.PumpOk (modeOnQuiet speed) speed integral := by
  unfold Machine.modeOnQuiet
  split
  · exact h.free rfl (by simp)
  · next hpos =>
    obtain rfl : speed = 0 := by omega
    exact .of_zero h.integral rfl

end

/-! ### The plant law -/

/-- Two speed commands that may follow each other: at most ramp apart, or a step between 0 and speed_min (R131). -/
def ConfigSet.Ramped (c : ConfigSet) (before after : Nat) : Prop :=
  (after ≤ before + c.ramp ∧ before ≤ after + c.ramp) ∨ (before = 0 ∧ after = c.speedMin) ∨
    (before = c.speedMin ∧ after = 0)

theorem ConfigSet.Ramped.refl (c : ConfigSet) (speed : Nat) : c.Ramped speed speed :=
  .inl ⟨Nat.le_add_right _ _, Nat.le_add_right _ _⟩

/-- What a result of the plant law owes to the values taken in: values in order, and a speed that the ramp allows. -/
structure ConfigSet.Follows (c : ConfigSet) (k : Taken) (r : PlantResult) : Prop where
  ok : c.PumpOk r.mode r.speed r.integral
  ramped : c.Ramped k.speed r.speed

section
variable {cfg : ConfigSet} {k : Taken}

/-- The stop sequence (R125). -/
theorem stopStep_follows (h : cfg.PumpOk k.mode k.speed k.integral) (hle : cfg.speedMin ≤ cfg.speedMax) :
    cfg.Follows k (stopStep cfg k) := by
  have hb := h.bounded
  unfold stopStep
  dsimp only
  by_cases hs : cfg.speedMin < k.speed
  · have hok : cfg.speedOk (max cfg.speedMin (k.speed - cfg.ramp)) := by omega
    rw [if_pos hs]
    refine ⟨⟨.inr hok, h.integral, fun _ => hok, fun hm => ?_⟩, ?_⟩
    · by_contra hne
      simp [hne] at hm
    · unfold ConfigSet.Ramped
      dsimp only
      omega
  · rw [if_neg hs]
    refine ⟨.of_zero h.integral rfl, ?_⟩
    unfold ConfigSet.Ramped
    dsimp only
    omega

/-- The start (R124). -/
theorem startPump_follows (h0 : k.speed = 0) (hle : cfg.speedMin ≤ cfg.speedMax) (hmax : cfg.speedMax ≤ 10000)
    (f : Figures) : cfg.Follows k (startPump cfg f) where
  ok := .of_speedOk ⟨le_rfl, hle⟩ (hle.trans hmax) (by simp [startPump])
  ramped := .inr (.inl ⟨h0, rfl⟩)

/-- A speed that stands, in a mode other than STOPPED, with a lawful integral. -/
theorem follows_of_held {r : PlantResult} (hs : cfg.speedOk k.speed) (hr : r.speed = k.speed) (hi : r.integral ≤ 10000)
    (hm : r.mode ≠ .stopped) : cfg.Follows k r where
  ok := .of_speedOk (hr ▸ hs) hi hm
  ramped := hr ▸ .refl _ _

/-- FALLBACK (R134). -/
theorem fallbackStep_follows (hs : cfg.speedOk k.speed) (hlow : cfg.speedMin ≤ cfg.fallbackSpeed)
    (hhigh : cfg.fallbackSpeed ≤ cfg.speedMax) (hmax : cfg.speedMax ≤ 10000) (f : Figures) :
    cfg.Follows k (fallbackStep cfg k f) := by
  obtain ⟨hmin, htop⟩ := hs
  have hx : rampFrom cfg k.speed cfg.fallbackSpeed =
      max ((k.speed : Int) - cfg.ramp) (min ((k.speed : Int) + cfg.ramp) cfg.fallbackSpeed) :=
    clamp_eq_max_min (by omega) _
  have key : cfg.speedOk (fallbackStep cfg k f).speed ∧ cfg.Ramped k.speed (fallbackStep cfg k f).speed := by
    unfold fallbackStep ConfigSet.Ramped
    dsimp only
    rw [hx]
    split <;> omega
  exact ⟨.of_speedOk key.1 (key.1.2.trans hmax) (by simp [fallbackStep]), key.2⟩

/-- RUN (R127 to R131). -/
theorem runLaw_follows (hs : cfg.speedOk k.speed) (hi : k.integral ≤ 10000) (f : Figures) (m : Int) :
    cfg.Follows k (runLaw cfg k f m) := by
  have ⟨hmin, htop⟩ := hs
  have hint : ((runLaw cfg k f m).integral : Int) ≤ 10000 := by
    change (nextIntegral cfg k (plantError k.mTarget m) : Int) ≤ 10000
    rw [coe_nextIntegral]
    split <;> omega
  have hdemand : (cfg.speedMin : Int) ≤ runDemand cfg k f m ∧ runDemand cfg k f m ≤ cfg.speedMax := by
    unfold runDemand
    dsimp only
    omega
  have key : cfg.speedOk (runLaw cfg k f m).speed ∧ cfg.Ramped k.speed (runLaw cfg k f m).speed := by
    unfold ConfigSet.Ramped
    cases hdp : headerHigh cfg f.dp with
    | true =>
      have := runLaw_speed_of_headerHigh hs hdp m
      omega
    | false =>
      have := runLaw_speed_of_header_ok hs hdp m
      omega
  exact ⟨.of_speedOk key.1 (by omega) (by simp [runLaw]), key.2⟩

/-- The return of the index (R135). -/
theorem returnToRun_follows (hs : cfg.speedOk k.speed) (f : Figures) (m : Int) : cfg.Follows k (returnToRun cfg k f m) := by
  refine follows_of_held hs rfl ?_ (by simp [returnToRun])
  have := coe_toNat_clamp_10000 ((k.speed : Int) - proportional cfg.kp (plantError k.mTarget m) - shareTerm cfg k f)
  simp only [returnToRun]
  omega

/-- HOLDING without an index (R133). -/
theorem holdSpeed_follows (hs : cfg.speedOk k.speed) (hmax : cfg.speedMax ≤ 10000) (f : Figures) (count : Nat) :
    cfg.Follows k (holdSpeed cfg k f count) := by
  unfold holdSpeed
  split <;> exact follows_of_held hs rfl (hs.2.trans hmax) (by simp)

/-- A pump that is stopped without availability stays so (R123). -/
theorem follows_of_stopped (h : cfg.PumpOk k.mode k.speed k.integral) (h0 : k.speed = 0) :
    cfg.Follows k ⟨.stopped, 0, k.integral, false, 0⟩ where
  ok := .of_zero h.integral rfl
  ramped := h0 ▸ .refl _ _

/-- FROZEN keeps speed and integral (R122). -/
theorem frozenStep_follows (h : cfg.PumpOk k.mode k.speed k.integral) (f : Figures) : cfg.Follows k (frozenStep cfg k f) where
  ok := h.free rfl (by simp [frozenStep])
  ramped := .refl _ _

/-- The table of R123 in every mode. -/
theorem pumpLaw_follows (h : cfg.PumpOk k.mode k.speed k.integral) (hlow : cfg.speedMin ≤ cfg.fallbackSpeed)
    (hhigh : cfg.fallbackSpeed ≤ cfg.speedMax) (hmax : cfg.speedMax ≤ 10000) (f : Figures) :
    cfg.Follows k (pumpLaw cfg k f) := by
  have hle := hlow.trans hhigh
  have hrun : ∀ mode, k.mode = mode → mode.running = true → cfg.speedOk k.speed := fun _ hm hr => h.running (hm ▸ hr)
  unfold pumpLaw
  split
  case h_1 hm =>
    split
    · exact startPump_follows (h.stopped hm) hle hmax f
    · exact follows_of_stopped h (h.stopped hm)
  case h_2 =>
    split
    · exact frozenStep_follows h f
    · next h0 =>
      split
      · exact startPump_follows (by omega) hle hmax f
      · exact follows_of_stopped h (by omega)
  case h_3 => exact stopStep_follows h hle
  case h_4 hm =>
    have hs := hrun _ hm rfl
    split
    · split
      · exact runLaw_follows hs h.integral f _
      · exact follows_of_held hs rfl (hs.2.trans hmax) (by simp)
    · exact stopStep_follows h hle
  case h_5 hm =>
    have hs := hrun _ hm rfl
    split
    · split
      · exact returnToRun_follows hs f _
      · exact holdSpeed_follows hs hmax f _
    · exact stopStep_follows h hle
  case h_6 hm =>
    have hs := hrun _ hm rfl
    split
    · split
      · exact returnToRun_follows hs f _
      · exact fallbackStep_follows hs hlow hhigh hmax f
    · exact stopStep_follows h hle

/-- The plant law in every station state (R120). -/
theorem plantLaw_follows (h : cfg.PumpOk k.mode k.speed k.integral) (hlow : cfg.speedMin ≤ cfg.fallbackSpeed)
    (hhigh : cfg.fallbackSpeed ≤ cfg.speedMax) (hmax : cfg.speedMax ≤ 10000) (x : StationState) (f : Figures) :
    cfg.Follows k (plantLaw x cfg k f) := by
  cases x
  case listen => exact frozenStep_follows h f
  case active => exact pumpLaw_follows h hlow hhigh hmax f
  case muted => exact pumpLaw_follows h hlow hhigh hmax f
  all_goals exact stopStep_follows h (hlow.trans hhigh)

end

/-! ### What leaves the law standing -/

/-- What the law reads: the configuration set, the kept values, the drive's command, the cycle unit, and whether the station
is in CONFIG and in reset. -/
theorem State.speedLaw.of_eq {s t : State} (h : s.speedLaw) (hcfg : t.cfg = s.cfg) (hfe : t.fe = s.fe)
    (hpd : t.pd.command = s.pd.command) (hcu : t.cu.state = s.cu.state)
    (htimer : s.cu.timer = none → t.cu.timer = none) (hconfig : t.sc.state = .config ↔ s.sc.state = .config)
    (hreset : t.inReset = s.inReset) : t.speedLaw := by
  obtain ⟨ok, command, taken, integrals, max, fallback, config, reset⟩ := State.speedLaw_iff.mp h
  rw [State.speedLaw_iff, hcfg, hfe, hpd, hcu, hreset]
  refine ⟨ok, command, taken, integrals, max, fun hr => fallback (mt hconfig.mpr hr), fun hc => ?_,
    hconfig.mpr ∘ reset⟩
  obtain ⟨hidle, hmode, hspeed⟩ := config (hconfig.mp hc)
  exact ⟨CycleUnit.ext (htimer (by rw [hidle])) (hcu.trans (by rw [hidle])), hmode, hspeed⟩

theorem State.speedLaw.of_waits {s t : State} (h : s.speedLaw) (w : s.Waits t) : t.speedLaw := by
  cases w
  case none => exact h
  case pass d => exact h.of_eq rfl rfl (by simp) rfl (by simp +contextual) .rfl rfl

theorem State.speedLaw.of_measures {s t : State} (h : s.speedLaw) (m : s.Measures t) : t.speedLaw := by
  obtain ⟨u, mu, fcu, latches, counters, w, rfl⟩ := m.frame
  exact (h.of_waits w :)

/-- The link does not take a station into CONFIG or out of it. -/
theorem StationState.Mutes.config_iff {x y : StationState} (h : x.Mutes y) : y = .config ↔ x = .config := by
  rcases h with rfl | ⟨rfl, rfl⟩
  · exact .rfl
  · simp

theorem State.speedLaw.of_links {s t : State} (h : s.speedLaw) (m : s.Links t) : t.speedLaw := by
  obtain ⟨u, w, r⟩ := m.frame
  cases r with
  | mk lu pt x mute latches counters hx => exact (h.of_waits w).of_eq rfl rfl rfl rfl id hx.config_iff rfl

theorem State.speedLaw.of_actuates {s t : State} (h : s.speedLaw) (m : s.Actuates t) : t.speedLaw := by
  obtain ⟨u, vd, w, rfl⟩ := m.frame
  exact (h.of_waits w :)

/-! ### The cycle -/

/-- A plant's completion keeps the results of its law in the Figures Engine (R93, R117). -/
theorem State.commitPlant_fe (s : State) (k : Taken) (f : Figures) : (s.commitPlant k f).fe =
    { s.fe with
      record := some (recordOf s.sc k f (.plant (plantLaw s.sc.state s.cfg k f).mode (plantLaw s.sc.state s.cfg k f).speed
        (plantLaw s.sc.state s.cfg k f).integral (plantLaw s.sc.state s.cfg k f).atLimit))
      mode := (plantLaw s.sc.state s.cfg k f).mode
      speed := (plantLaw s.sc.state s.cfg k f).speed
      integral := (plantLaw s.sc.state s.cfg k f).integral
      atLimit := (plantLaw s.sc.state s.cfg k f).atLimit
      holdingCount := (plantLaw s.sc.state s.cfg k f).holdingCount } := by
  simp [State.commitPlant]

/-- It issues the speed to the Plant Drive and leaves the PWM period (R119, R136). -/
theorem State.commitPlant_pd (s : State) (k : Taken) (f : Figures) :
    (s.commitPlant k f).pd = { s.pd with command := (plantLaw s.sc.state s.cfg k f).speed } := by
  simp [State.commitPlant]

/-- A running station out of reset obeys the law if its values, taken and kept, do. -/
theorem State.speedLaw_of_runs {s : State} (hruns : s.sc.state ≠ .config) (hreset : s.inReset = false)
    (ok : s.cfg.PumpOk s.fe.mode s.fe.speed s.fe.integral) (command : s.pd.command = s.fe.speed)
    (taken : ∀ k ∈ s.cu.state.taken,
      k.speed = s.fe.speed ∧ k.integral = s.fe.integral ∧ s.cfg.PumpOk k.mode k.speed k.integral)
    (max : s.cfg.speedMax ≤ 10000)
    (fallback : s.cfg.speedMin ≤ s.cfg.fallbackSpeed ∧ s.cfg.fallbackSpeed ≤ s.cfg.speedMax) : s.speedLaw :=
  State.speedLaw_iff.mpr ⟨ok, command, fun k hk => ⟨(taken k hk).1, (taken k hk).2.2⟩, fun k hk => (taken k hk).2.1, max,
    fun _ => fallback, fun hc => absurd hc hruns, fun hr => absurd hr (by simp [hreset])⟩

/-- In CONFIG the cycle unit stands. -/
theorem State.speedLaw.runs_of_cycle {s : State} (h : s.speedLaw) (hcu : s.cu ≠ ⟨none, .opened⟩) :
    s.sc.state ≠ .config := by
  obtain ⟨-, -, -, -, -, -, config, -⟩ := State.speedLaw_iff.mp h
  exact fun hc => hcu (config hc).1

/-- A running station's cycle unit may move to where no computation is in progress. -/
theorem State.speedLaw.of_idle {s t : State} (h : s.speedLaw) (hruns : s.sc.state ≠ .config) (hreset : s.inReset = false)
    (hcfg : t.cfg = s.cfg) (hfe : t.fe = s.fe) (hpd : t.pd = s.pd) (hsc : t.sc.state ≠ .config)
    (hr : t.inReset = s.inReset) (hcu : t.cu.state.taken = none) : t.speedLaw := by
  obtain ⟨ok, command, -, -, max, fallback, -, -⟩ := State.speedLaw_iff.mp h
  refine State.speedLaw_of_runs hsc (hr.trans hreset) ?_ ?_ (by simp [hcu]) ?_ ?_
  · rw [hcfg, hfe]; exact ok
  · rw [hpd, hfe]; exact command
  · rw [hcfg]; exact max
  · rw [hcfg]; exact fallback hruns

/-- A computation takes in values in order (R91). -/
theorem State.speedLaw.startComputation {s : State} (h : s.speedLaw) (hruns : s.sc.state ≠ .config)
    (hreset : s.inReset = false) : s.startComputation.speedLaw := by
  obtain ⟨ok, command, -, -, max, fallback, -, -⟩ := State.speedLaw_iff.mp h
  rw [State.startComputation_eq]
  refine State.speedLaw_of_runs hruns hreset ok command (fun k hk => ?_) max (fallback hruns)
  obtain rfl : s.takeIn s.flowGiven = k := Option.some.inj hk
  exact ⟨rfl, rfl, ok⟩

/-- An aging pass keeps the law: it is about the Peer Table (R78). -/
theorem State.speedLaw.agingPass {s : State} (h : s.speedLaw) : s.agingPass.speedLaw :=
  h.of_eq (by simp) (by simp) (by simp) (by simp) (by simp) (by simp) (by simp)

/-- A boundary keeps the law (R88 to R90). -/
theorem State.speedLaw.boundary {s : State} (h : s.speedLaw) (hreset : s.inReset = false) : s.boundary.speedLaw := by
  unfold State.boundary
  split
  · exact h
  · exact h
  · next τ ht _ =>
    have hruns : s.sc.state ≠ .config := h.runs_of_cycle fun hcu => by simp [hcu] at ht
    have hp := h.of_waits (.pass (s.cfg.cyclePeriod * msClocks - τ))
    unfold State.atBoundary
    split
    · exact hp.agingPass.startComputation (by simpa using hruns) (by simpa using hreset)
    · exact hp
    · exact hp.of_idle hruns hreset rfl rfl rfl hruns rfl rfl
    · have hl : (State.setLatch .holdOverrun (s.pass (s.cfg.cyclePeriod * msClocks - τ))).speedLaw := (hp :)
      exact hl.agingPass.agingPass.startComputation (by simpa using hruns) (by simpa using hreset)

/-- What the count step leaves of the station: it is not in CONFIG, and its pump is in order (R11, R13, R121). -/
theorem State.countStep_pumpOk {s : State} (h : s.cfg.PumpOk s.fe.mode s.fe.speed s.fe.integral) :
    s.cfg.PumpOk s.countStep.fe.mode s.fe.speed s.fe.integral := by
  rw [State.countStep_fe_mode]
  split
  · exact h.modeOnActive _
  · exact h

/-- The completion of a computation keeps the law (R93): a plant commits what its law makes of the values taken in, a customer
leaves the pump's values. -/
theorem State.speedLaw.complete {s : State} {k : Taken} (h : s.speedLaw) (hk : k ∈ s.cu.state.taken)
    (hruns : s.sc.state ≠ .config) (hreset : s.inReset = false) : (s.complete k).speedLaw := by
  obtain ⟨ok, command, taken, -, max, fallback, -, -⟩ := State.speedLaw_iff.mp h
  obtain ⟨hlow, hhigh⟩ := fallback hruns
  have done : ∀ u : State, u.sc.state ≠ .config → u.inReset = false → u.cfg = s.cfg →
      s.cfg.PumpOk u.fe.mode u.fe.speed u.fe.integral → u.pd.command = u.fe.speed → u.countStep.openTable.speedLaw := by
    intro u hu hr hcfg hok hcommand
    refine State.speedLaw_of_runs ?_ (by simpa using hr) ?_ (by simpa using hcommand) (by simp [CycleState.taken]) ?_ ?_
    · simpa [State.countStep_config] using hu
    · have := State.countStep_pumpOk (hcfg ▸ hok)
      simpa using this
    · simpa [hcfg] using max
    · simpa [hcfg] using fallback hruns
  unfold State.complete
  dsimp only
  rw [State.commitStarved_sc]
  cases s.sc.role with
  | plant =>
    have follows := plantLaw_follows (taken k hk).2 hlow hhigh max s.sc.state (figures s.sc s.cfg k s.pt.entries)
    exact done _ (by simpa using hruns) (by simpa using hreset) (by simp) (by simpa [State.commitPlant_fe] using follows.ok)
      (by simp [State.commitPlant_fe, State.commitPlant_pd])
  | customer =>
    exact done _ (by simpa using hruns) (by simpa using hreset) (by simp) (by simpa using ok) (by simpa using command)

/-- A completion keeps the law (R93). -/
theorem State.speedLaw.completion {s : State} (h : s.speedLaw) (hreset : s.inReset = false) : s.completion.speedLaw := by
  unfold State.completion
  split
  · next k hk =>
    have hruns : s.sc.state ≠ .config := h.runs_of_cycle fun hcu => by simp [hcu] at hk
    exact (h.of_waits (.pass _)).complete (by simp [hk, CycleState.taken]) hruns hreset
  all_goals exact h

/-! ### Host commands and resets -/

/-- A stored parameter leaves speed_max in its range (R4). -/
theorem ConfigSet.speedMax_put {c : ConfigSet} {p : Param} {x : Int} (h : c.speedMax ≤ 10000) (hx : p.inRange x = true) :
    (c.put p x).speedMax ≤ 10000 := by
  cases p
  case speedMax =>
    simp only [Param.inRange, Bool.and_eq_true, decide_eq_true_eq] at hx
    simp only [ConfigSet.put]
    omega
  all_goals exact h

/-- CONFIGURE keeps the law: in CONFIG the pump stands (R4, R119). -/
theorem State.speedLaw.store {s : State} (h : s.speedLaw) (hc : s.sc.state = .config) {p : Param} {x : Int}
    (hx : p.inRange x = true) : (s.store p x).speedLaw := by
  obtain ⟨ok, command, -, -, max, -, config, reset⟩ := State.speedLaw_iff.mp h
  obtain ⟨hcu, hmode, hspeed⟩ := config hc
  obtain ⟨mu, fcu, e⟩ := s.store_frame p x
  rw [e, State.speedLaw_iff]
  dsimp only
  rw [hcu, hmode, hspeed]
  exact ⟨.of_zero ok.integral rfl, hspeed ▸ command, by simp [CycleState.taken], by simp [CycleState.taken],
    ConfigSet.speedMax_put max hx, fun hr => absurd hc hr, fun _ => ⟨rfl, rfl, rfl⟩, reset⟩

/-- A running station whose pump changes to a mode that is in order, with no other change of what the law reads. -/
theorem State.speedLaw.of_mode {s t : State} (h : s.speedLaw) (hruns : s.sc.state ≠ .config) (hreset : s.inReset = false)
    {mode : PumpMode} {count : Nat} (hmode : s.cfg.PumpOk mode s.fe.speed s.fe.integral)
    (hcfg : t.cfg = s.cfg) (hfe : t.fe = { s.fe with mode := mode, holdingCount := count }) (hpd : t.pd = s.pd)
    (hsc : t.sc.state ≠ .config) (hr : t.inReset = s.inReset) (hcu : t.cu.state = s.cu.state) : t.speedLaw := by
  obtain ⟨-, command, taken, integrals, max, fallback, -, -⟩ := State.speedLaw_iff.mp h
  refine State.speedLaw_of_runs hsc (hr.trans hreset) ?_ ?_ ?_ ?_ ?_
  · rw [hcfg, hfe]; exact hmode
  · rw [hpd, hfe]; exact command
  · rw [hcfg, hfe, hcu]; exact fun k hk => ⟨(taken k hk).1, integrals k hk, (taken k hk).2⟩
  · rw [hcfg]; exact max
  · rw [hcfg]; exact fallback hruns

/-- The drives' part of an entry into LISTEN keeps the law: a plant is FROZEN at its speed (R9, R19). -/
theorem State.speedLaw.listenDrives {s : State} (h : s.speedLaw) (hruns : s.sc.state ≠ .config)
    (hreset : s.inReset = false) : s.listenDrives.speedLaw := by
  have ok := (State.speedLaw_iff.mp h).1
  unfold State.listenDrives
  split
  · exact h.of_mode hruns hreset (ok.free rfl (by simp)) rfl rfl rfl hruns rfl rfl
  · exact (h :)

theorem State.speedLaw.rejoinDrives {s : State} (h : s.speedLaw) (hruns : s.sc.state ≠ .config)
    (hreset : s.inReset = false) : s.rejoinDrives.speedLaw := by
  have ok := (State.speedLaw_iff.mp h).1
  unfold State.rejoinDrives
  split
  · exact h.of_mode hruns hreset (ok.free rfl (by simp)) rfl rfl rfl hruns rfl rfl
  · split <;> exact (h :)

theorem State.speedLaw.quietDrives {s : State} (h : s.speedLaw) (hruns : s.sc.state ≠ .config)
    (hreset : s.inReset = false) : s.quietDrives.speedLaw := by
  have ok := (State.speedLaw_iff.mp h).1
  unfold State.quietDrives
  split
  · exact h.of_mode (count := s.fe.holdingCount) hruns hreset ok.modeOnQuiet rfl rfl rfl hruns rfl rfl
  · exact (h :)

/-- START keeps the law: the relations it checks are those of the fallback speed (R6, R9). -/
theorem State.speedLaw.startStation {s : State} (h : s.speedLaw) (hreset : s.inReset = false)
    (hc : s.sc.state = .config) (hrel : s.cfg.relationsHold = true) : s.startStation.speedLaw := by
  obtain ⟨ok, command, -, -, max, -, config, -⟩ := State.speedLaw_iff.mp h
  have hcu := (config hc).1
  simp only [ConfigSet.relationsHold, Bool.and_eq_true, decide_eq_true_eq] at hrel
  obtain ⟨⟨-, hlow⟩, hhigh⟩ := hrel
  unfold State.startStation
  refine State.speedLaw.listenDrives ?_ (by simp) hreset
  exact State.speedLaw_of_runs (by simp) hreset ok command (by simp [hcu, CycleState.taken]) max ⟨hlow, hhigh⟩

/-- LEAVE keeps the law (R15, R16). -/
theorem State.speedLaw.leaveNetwork {s : State} (h : s.speedLaw) (hreset : s.inReset = false)
    (hruns : s.sc.state ≠ .config) : s.leaveNetwork.speedLaw := by
  unfold State.leaveNetwork
  dsimp only
  refine State.speedLaw.quietDrives (h.of_eq ?_ ?_ ?_ ?_ ?_ ?_ ?_) (by simp) ?_
  all_goals split <;> simp [hruns, hreset]

/-- REJOIN keeps the law (R18). -/
theorem State.speedLaw.rejoinNetwork {s : State} (h : s.speedLaw) (hreset : s.inReset = false)
    (hruns : s.sc.state ≠ .config) : s.rejoinNetwork.speedLaw := by
  unfold State.rejoinNetwork
  refine State.speedLaw.rejoinDrives (h.of_eq ?_ ?_ ?_ ?_ ?_ ?_ ?_) (by simp) ?_
  all_goals simp [hruns, hreset]

/-- RESTART keeps the law: it discards the computation and keeps the speed (R19, R100). -/
theorem State.speedLaw.softRestart {s : State} (h : s.speedLaw) (hreset : s.inReset = false)
    (hruns : s.sc.state ≠ .config) : s.softRestart.speedLaw := by
  obtain ⟨ok, command, -, -, max, fallback, -, -⟩ := State.speedLaw_iff.mp h
  unfold State.softRestart
  refine State.speedLaw.listenDrives (State.speedLaw_of_runs ?_ ?_ ?_ ?_ ?_ ?_ ?_) (by simp) (by simpa using hreset)
  · simp
  · simpa using hreset
  · simpa using ok
  · simpa using command
  · simp [CycleState.taken]
  · simpa using max
  · simpa using fallback hruns

/-- Every host command keeps the law. -/
theorem State.speedLaw.serves {s t : State} (h : s.speedLaw) (hreset : s.inReset = false) (ht : s.Serves t) :
    t.speedLaw := by
  cases ht
  case unchanged => exact h
  case stored p x hc hx => exact h.store hc hx
  case started hc hrel => exact h.startStation hreset hc hrel
  case requestSet => exact h
  case availableSet => exact h
  case targetSet => exact h
  case countersCleared => exact h
  case latchesCleared => exact h
  case held hr _ => exact h.of_idle hr hreset rfl rfl rfl hr rfl rfl
  case released hr _ =>
    exact h.of_idle hr hreset (by simp) (by simp) (by simp) (by simpa using hr) (by simp) (by simp [CycleState.taken])
  case resumed hr _ => exact h.agingPass.startComputation (by simpa using hr) (by simpa using hreset)
  case sought => exact h
  case left hx => exact h.leaveNetwork hreset (by rintro hc; simp [hc] at hx)
  case rejoined hq => exact h.rejoinNetwork hreset (by simp [hq])
  case restarted hr => exact h.softRestart hreset hr

/-- Every move keeps the law. -/
theorem State.speedLaw.moves {s t : State} (h : s.speedLaw) (hreset : s.inReset = false) (ht : s.Moves t) :
    t.speedLaw := by
  rcases ht.kinds with w | m | l | a | g
  · exact h.of_waits w
  · exact h.of_measures m
  · exact h.of_links l
  · exact h.of_actuates a
  · cases g
    case selected => exact h
    case deselected => exact h
    case boundary => exact h.boundary hreset
    case completion => exact h.completion hreset
    case answered hu => exact (h.serves hreset hu :)

/-- A hard reset leaves the law: the pump is STOPPED at speed 0 (R7, R119). -/
theorem State.hardReset_speedLaw (s : State) : s.hardReset.speedLaw :=
  State.speedLaw_iff.mpr ⟨.of_zero (Nat.zero_le _) rfl, rfl, by simp [State.hardReset, State.reset, CycleState.taken],
    by simp [State.hardReset, State.reset, CycleState.taken], (by decide : ConfigSet.defaults.speedMax ≤ 10000),
    fun hr => absurd rfl hr, fun _ => ⟨rfl, rfl, rfl⟩, fun _ => rfl⟩

/-- The end of a hard reset keeps the law: no clause reads the straps (R1). -/
theorem State.speedLaw.endOfReset {s : State} (h : s.speedLaw) (a : BitVec 5) (role flowin ssn : Bool) :
    (s.endOfReset a role flowin ssn).speedLaw := by
  obtain ⟨ok, command, taken, integrals, max, fallback, config, -⟩ := State.speedLaw_iff.mp h
  exact State.speedLaw_iff.mpr ⟨ok, command, taken, integrals, max, fallback, config, nofun⟩

/-- Settles O14: a hard reset, its end, and every move keep the law. -/
theorem stepKeepsSpeedLaw : Obligations.StepKeepsSpeedLaw := fun _ _ hs h =>
  step_keeps (P := State.speedLaw) (fun _ _ _ hq => hq) (fun s _ => s.hardReset_speedLaw)
    (fun _ a role flowin ssn _ hs => hs.endOfReset a role flowin ssn) (fun _ _ hr hs hm => hs.moves hr hm) hs h

/-! ### Successive speed commands (R131) -/

/-- A completion moves the speed as the plant law does. -/
theorem State.speedLaw.completion_ramped {s : State} (h : s.speedLaw) : s.cfg.Ramped s.fe.speed s.completion.fe.speed := by
  obtain ⟨-, -, taken, -, max, fallback, -, -⟩ := State.speedLaw_iff.mp h
  unfold State.completion
  split
  · next k hk =>
    have hruns : s.sc.state ≠ .config := h.runs_of_cycle fun hcu => by simp [hcu] at hk
    obtain ⟨hlow, hhigh⟩ := fallback hruns
    obtain ⟨hspeed, hok⟩ := taken k (by simp [hk, CycleState.taken])
    unfold State.complete
    dsimp only
    rw [State.commitStarved_sc, State.pass_sc]
    cases s.sc.role with
    | plant =>
      have follows := plantLaw_follows hok hlow hhigh max s.sc.state (figures s.sc s.cfg k s.pt.entries)
      simpa [State.commitPlant_fe, hspeed] using follows.ramped
    | customer => simpa using ConfigSet.Ramped.refl _ _
  all_goals exact .refl _ _

/-- A host command leaves the speed (R119). -/
theorem State.Serves.fe_speed {s t : State} (h : s.Serves t) : t.fe.speed = s.fe.speed := by
  cases h
  case stored p x _ _ =>
    obtain ⟨mu, fcu, e⟩ := s.store_frame p x
    rw [e]
  case started =>
    obtain ⟨mode, count, vd, e⟩ := State.listenDrives_frame { s with
      sc.state := .listen, sc.listenCount := 2, lu := s.lu.turnOn, cu.timer := some 0 }
    rw [State.startStation, e]
  case released => simp
  case resumed => simp
  case left =>
    unfold State.leaveNetwork
    dsimp only
    obtain ⟨mode, vd, e⟩ := State.quietDrives_frame { (if s.sc.state == .active then (s.withdraw .report).placeNotice
      else s.withdraw .report) with sc := { (if s.sc.state == .active then (s.withdraw .report).placeNotice
        else s.withdraw .report).sc with state := .quiet, listenCount := 0, muteCount := 0 } }
    rw [e]
    dsimp only
    split <;> simp
  case rejoined =>
    unfold State.rejoinNetwork State.rejoinDrives
    dsimp only
    split
    · simp
    · split <;> simp
  case restarted =>
    unfold State.softRestart State.listenDrives
    dsimp only
    split <;> simp
  all_goals rfl

/-- No move but a completion moves the speed. -/
theorem State.speedLaw.moves_ramped {s t : State} (h : s.speedLaw) (ht : s.Moves t) :
    s.cfg.Ramped s.fe.speed t.fe.speed := by
  rcases ht.engine_cases with k | rfl | rfl | ⟨u, r, hu, rfl⟩
  · rw [k.fe]; exact .refl _ _
  · suffices s.boundary.fe = s.fe by rw [this]; exact .refl _ _
    unfold State.boundary State.atBoundary
    split <;> (try split) <;> simp
  · exact h.completion_ramped
  · rw [State.answer_fe, State.deselect_fe, hu.fe_speed]; exact .refl _ _

/-- Settles O15: the plant law moves the speed by the ramp, and nothing else moves it. -/
theorem speedMovesByAtMostRamp : Obligations.SpeedMovesByAtMostRamp := by
  intro c s t hs hc he
  rcases exec_cases_of_ne hc he with ⟨_, _, _, _, -, -, rfl⟩ | rfl | ⟨-, hm⟩
  · exact ConfigSet.Ramped.refl s.cfg s.fe.speed
  · exact ConfigSet.Ramped.refl t.cfg t.fe.speed
  · exact hs.moves_ramped hm

end Sys2Proof.Machine
end

section
/-! The law of the station counts and of the outgoing frames (R7, R11, R13, R14, R54, R63) through every step. -/

namespace Sys2Proof.Machine

/-! ### The law in its parts -/

/-- The counts of a station in its state (R10, R13). -/
def StationController.CountsInLaw (sc : StationController) : Prop :=
  (if sc.state = .listen then 1 ≤ sc.listenCount ∧ sc.listenCount ≤ 2 else sc.listenCount = 0) ∧
  (if sc.state = .muted then 1 ≤ sc.muteCount ∧ sc.muteCount ≤ 8 else sc.muteCount = 0)

/-- The state in which a frame of a slot may wait or be sent: a report in ACTIVE, a notice in QUIET (R11, R14). -/
def Slot.home : Slot → StationState
  | .report => .active
  | .notice => .quiet

/-- What a slot may hold in a station state. -/
structure LinkUnit.SlotInLaw (l : LinkUnit) (x : StationState) (slot : Slot) : Prop where
  home : (l.slot slot).isSome = true → x = slot.home
  frame : ∀ o ∈ l.slot slot, o.frame.slot = slot ∧ o.attempt < 6

/-- What the transmitter may do, by what the slots hold and the station state. -/
def LinkUnit.TransmitterInLaw (l : LinkUnit) (x : StationState) : Prop :=
  match l.transmitter with
  | .idle => ∀ slot, l.slot slot = none
  | .waiting slot _ _ => (l.slot slot).isSome = true
  | .sending o _ => o.attempt < 6 ∧ x = o.frame.slot.home

/-- A lawful sending side in a station state. -/
structure LinkUnit.InLaw (l : LinkUnit) (x : StationState) : Prop where
  slots : ∀ slot, l.SlotInLaw x slot
  transmitter : l.TransmitterInLaw x

theorem Slot.forall_iff {p : Slot → Prop} : (∀ slot, p slot) ↔ p .report ∧ p .notice :=
  ⟨fun h => ⟨h _, h _⟩, fun ⟨h1, h2⟩ slot => by cases slot <;> assumption⟩

/-- The law, with its clauses on the counts and on the sending side gathered. -/
theorem State.stationLaw_iff {s : State} : s.stationLaw ↔ s.sc.CountsInLaw ∧ s.lu.InLaw s.sc.state := by
  constructor
  · rintro ⟨listen, mute, report, notice, reports, notices, transmitter⟩
    refine ⟨⟨listen, mute⟩, Slot.forall_iff.mpr ⟨⟨fun h => report (.inl h), reports⟩, ⟨fun h => notice (.inl h), notices⟩⟩, ?_⟩
    unfold LinkUnit.TransmitterInLaw
    cases hx : s.lu.transmitter with
    | idle => rw [hx] at transmitter; exact Slot.forall_iff.mpr transmitter
    | waiting slot k gap => rw [hx] at transmitter; exact transmitter
    | sending o t =>
      rw [hx] at transmitter report notice
      refine ⟨transmitter, ?_⟩
      cases hslot : o.frame.slot
      · exact report (.inr (by simp [Transmitter.inFlightFrom, hslot]))
      · exact notice (.inr (by simp [Transmitter.inFlightFrom, hslot]))
  · rintro ⟨⟨listen, mute⟩, slots, transmitter⟩
    have flying : ∀ slot, s.lu.transmitter.inFlightFrom slot = true → s.sc.state = slot.home := by
      intro slot h
      cases hx : s.lu.transmitter with
      | sending o t =>
        simp only [LinkUnit.TransmitterInLaw, hx] at transmitter
        simp only [hx, Transmitter.inFlightFrom, beq_iff_eq] at h
        exact h ▸ transmitter.2
      | _ => simp [hx, Transmitter.inFlightFrom] at h
    refine ⟨listen, mute, fun h => h.elim (slots .report).home (flying .report),
      fun h => h.elim (slots .notice).home (flying .notice), (slots .report).frame, (slots .notice).frame, ?_⟩
    unfold LinkUnit.TransmitterInLaw at transmitter
    cases hx : s.lu.transmitter with
    | idle => rw [hx] at transmitter; exact Slot.forall_iff.mp transmitter
    | waiting slot k gap => rw [hx] at transmitter; exact transmitter
    | sending o t => rw [hx] at transmitter; exact transmitter.1

/-! ### A silent sending side -/

/-- Nothing waits and nothing is sent. -/
structure LinkUnit.Silent (l : LinkUnit) : Prop where
  empty : ∀ slot, l.slot slot = none
  idle : l.transmitter = .idle

/-- It is lawful in every station state. -/
theorem LinkUnit.Silent.inLaw {l : LinkUnit} (h : l.Silent) (x : StationState) : l.InLaw x where
  slots slot := ⟨by simp [h.empty slot], by simp [h.empty slot]⟩
  transmitter := by simp only [LinkUnit.TransmitterInLaw, h.idle]; exact h.empty

/-- A transmitter that serves neither slot is idle. -/
theorem Transmitter.idle_of_serves_none {x : Transmitter} (h : ∀ slot, x.serving slot = false) : x = .idle := by
  cases x with
  | idle => rfl
  | waiting slot k gap => simpa [Transmitter.serving] using h slot
  | sending o t => simpa [Transmitter.serving] using h o.frame.slot

/-- What a lawful transmitter serves is at home in the station state. -/
theorem LinkUnit.InLaw.home_of_serving {l : LinkUnit} {x : StationState} (h : l.InLaw x) {slot : Slot}
    (hs : l.transmitter.serving slot = true) : x = slot.home := by
  have transmitter := h.transmitter
  unfold LinkUnit.TransmitterInLaw at transmitter
  cases hx : l.transmitter with
  | idle => simp [hx, Transmitter.serving] at hs
  | waiting y k gap =>
    simp only [hx, Transmitter.serving, beq_iff_eq] at hs transmitter
    exact hs ▸ (h.slots y).home transmitter
  | sending o t =>
    simp only [hx, Transmitter.serving, beq_iff_eq] at hs transmitter
    exact hs ▸ transmitter.2

/-- In a state that is home to no slot, the sending side is silent. -/
theorem LinkUnit.InLaw.silent {l : LinkUnit} {x : StationState} (h : l.InLaw x) (hx : ∀ slot : Slot, x ≠ slot.home) :
    l.Silent where
  empty slot := by simpa using mt (h.slots slot).home (hx slot)
  idle := Transmitter.idle_of_serves_none fun slot => by simpa using mt h.home_of_serving (hx slot)

theorem Slot.config_ne_home (slot : Slot) : StationState.config ≠ slot.home := by cases slot <;> simp [Slot.home]
theorem Slot.listen_ne_home (slot : Slot) : StationState.listen ≠ slot.home := by cases slot <;> simp [Slot.home]
theorem Slot.muted_ne_home (slot : Slot) : StationState.muted ≠ slot.home := by cases slot <;> simp [Slot.home]

/-- The other slot. -/
def Slot.other : Slot → Slot
  | .report => .notice
  | .notice => .report

theorem Slot.eq_or_eq_other (x slot : Slot) : slot = x ∨ slot = x.other := by
  cases x <;> cases slot <;> simp [Slot.other]

theorem Slot.home_injective {x y : Slot} (h : x.home = y.home) : x = y := by
  cases x <;> cases y <;> simp_all [Slot.home]

theorem LinkUnit.slot_setSlot_other (l : LinkUnit) (x : Slot) (o : Option Outgoing) :
    (l.setSlot x o).slot x.other = l.slot x.other := by
  cases x <;> rfl

theorem LinkUnit.slot_withTransmitter (l : LinkUnit) (x : Transmitter) (slot : Slot) :
    ({ l with transmitter := x } : LinkUnit).slot slot = l.slot slot := by cases slot <;> rfl

/-- Withdrawing one slot silences a side on which the other has nothing and is not served (R14). -/
theorem State.withdraw_silent {s : State} {x : Slot} (hempty : s.lu.slot x.other = none)
    (hserving : s.lu.transmitter.serving x.other = false) : (s.withdraw x).lu.Silent := by
  have ⟨hx, hsx⟩ := State.withdraw_serving x s
  have hother : (s.withdraw x).lu.slot x.other = none := by
    rw [State.withdraw_lu]
    split
    · rw [LinkUnit.serve_eq, LinkUnit.slot_withTransmitter, LinkUnit.slot_setSlot_other, hempty]
    · rw [LinkUnit.slot_setSlot_other, hempty]
  refine ⟨fun slot => ?_, Transmitter.idle_of_serves_none fun slot => ?_⟩
  · rcases x.eq_or_eq_other slot with rfl | rfl
    · exact hx
    · exact hother
  · rcases x.eq_or_eq_other slot with rfl | rfl
    · exact hsx
    · rw [State.withdraw_lu]
      split
      · cases x
        · have hn : s.lu.noticeSlot = none := hempty
          simp [Slot.other, LinkUnit.setSlot, hn]
        · have hp : s.lu.reportSlot = none := hempty
          simp [Slot.other, LinkUnit.setSlot, hp]
      · simpa using hserving

/-- Withdrawing the slot at home in the station state, or any in a state that is home to the other alone, leaves a lawful side
silent. -/
theorem LinkUnit.InLaw.withdraw_silent {s : State} {x : Slot} (h : s.lu.InLaw s.sc.state)
    (hx : s.sc.state ≠ x.other.home) : (s.withdraw x).lu.Silent :=
  State.withdraw_silent (by simpa using mt (h.slots x.other).home hx) (by simpa using mt h.home_of_serving hx)

/-- Withdrawing both slots leaves the sending side silent (R19). -/
theorem State.withdraw_both_silent (s : State) : ((s.withdraw .report).withdraw .notice).lu.Silent :=
  State.withdraw_silent (x := .notice) (s.withdraw_serving .report).1 (s.withdraw_serving .report).2

/-! ### What keeps a sending side lawful -/

section
variable {l l' : LinkUnit} {x : StationState}

/-- What the slots hold, read slot by slot. -/
theorem LinkUnit.slots_eq (hr : l'.reportSlot = l.reportSlot) (hn : l'.noticeSlot = l.noticeSlot) (slot : Slot) :
    l'.slot slot = l.slot slot := by
  cases slot
  · exact hr
  · exact hn

theorem LinkUnit.SlotInLaw.of_eq {slot : Slot} (h : l.SlotInLaw x slot) (he : l'.slot slot = l.slot slot) :
    l'.SlotInLaw x slot := ⟨he ▸ h.home, he ▸ h.frame⟩

/-- A transmitter without its times. -/
def Transmitter.untimed : Transmitter → Transmitter
  | .idle => .idle
  | .waiting slot _ _ => .waiting slot 0 0
  | .sending o _ => .sending o 0

/-- The law reads no times. -/
theorem LinkUnit.InLaw.of_untimed (h : l.InLaw x) (hr : l'.reportSlot = l.reportSlot) (hn : l'.noticeSlot = l.noticeSlot)
    (ht : l'.transmitter.untimed = l.transmitter.untimed) : l'.InLaw x where
  slots slot := (h.slots slot).of_eq (LinkUnit.slots_eq hr hn slot)
  transmitter := by
    have transmitter := h.transmitter
    have hslots := LinkUnit.slots_eq hr hn
    unfold LinkUnit.TransmitterInLaw at transmitter ⊢
    cases hx : l.transmitter <;> cases hx' : l'.transmitter <;> simp only [hx, hx', Transmitter.untimed] at ht <;> cases ht
    · simpa [hx, hslots] using transmitter
    · simpa [hx, hslots] using transmitter
    · simpa [hx] using transmitter

/-- Serving lawful slots is lawful (R54). -/
theorem LinkUnit.InLaw.of_served (h : ∀ slot, l.SlotInLaw x slot) {a : Nat}
    (ht : l.transmitter = servedBy a l.noticeSlot l.reportSlot) : l.InLaw x where
  slots := h
  transmitter := by
    unfold LinkUnit.TransmitterInLaw
    rw [ht]
    cases hn : l.noticeSlot with
    | some o => simp [servedBy, LinkUnit.slot, hn]
    | none =>
      cases hr : l.reportSlot with
      | some o => simp [servedBy, LinkUnit.slot, hr]
      | none => exact Slot.forall_iff.mpr ⟨hr, hn⟩

end

@[simp] theorem Transmitter.pass_untimed (x : Transmitter) (d : Nat) : (x.pass d).untimed = x.untimed := by cases x <;> rfl

@[simp] theorem LinkUnit.dominant_untimed (n : Nat) (l : LinkUnit) :
    (l.dominant n).transmitter.untimed = l.transmitter.untimed := by
  unfold LinkUnit.dominant; cases l.transmitter <;> rfl

/-! ### The link -/

/-- A move that leaves the Station Controller, the slots and, but for times, the transmitter keeps the law. -/
theorem State.stationLaw.of_eq {s t : State} (h : s.stationLaw) (hsc : t.sc = s.sc)
    (hr : t.lu.reportSlot = s.lu.reportSlot) (hn : t.lu.noticeSlot = s.lu.noticeSlot)
    (ht : t.lu.transmitter.untimed = s.lu.transmitter.untimed) : t.stationLaw := by
  obtain ⟨counts, link⟩ := State.stationLaw_iff.mp h
  rw [State.stationLaw_iff, hsc]
  exact ⟨counts, link.of_untimed hr hn ht⟩

theorem State.stationLaw.of_waits {s t : State} (h : s.stationLaw) (w : s.Waits t) : t.stationLaw := by
  cases w
  case none => exact h
  case pass d => exact h.of_eq rfl rfl rfl (by simp)

/-- An address conflict keeps the law: in ACTIVE the report is withdrawn with the entry into MUTED (R12, R13). -/
theorem State.stationLaw.conflict {s : State} (h : s.stationLaw) : s.conflict.stationLaw := by
  have ⟨counts, link⟩ := State.stationLaw_iff.mp h
  obtain ⟨listen, -⟩ := counts
  unfold State.conflict
  dsimp only
  split
  · next hx =>
    have hx : s.sc.state = .active := by simpa using hx
    have silent : (State.withdraw .report ((s.bump .conflicts).setLatch .addressConflict)).lu.Silent :=
      LinkUnit.InLaw.withdraw_silent (by simpa using link) (by simp [hx, Slot.other, Slot.home])
    refine State.stationLaw_iff.mpr ⟨⟨?_, ?_⟩, silent.inLaw _⟩
    · simpa [hx] using listen
    · simp
  · next hx =>
    have hx : s.sc.state = .muted := by simpa using hx
    refine State.stationLaw_iff.mpr ⟨⟨listen, ?_⟩, link⟩
    simp [hx]
  all_goals exact (h :)

theorem State.stationLaw.finishFrame {s : State} (h : s.stationLaw) (own : Bool) (cs : List Byte) :
    (s.finishFrame own cs).stationLaw := by
  unfold State.finishFrame
  dsimp only
  split
  · exact (h :)
  · split
    · exact (h :)
    · exact (h :)
    · unfold State.arrive
      split
      · exact State.stationLaw.conflict (h :)
      · exact h.of_eq (by simp) (by simp) (by simp) (by simp)

theorem State.stationLaw.dropFrame {s : State} (h : s.stationLaw) (own : Bool) : (s.dropFrame own).stationLaw :=
  h.of_eq (by simp [State.dropFrame]) (by simp [State.dropFrame]) (by simp [State.dropFrame]) (by simp [State.dropFrame])

theorem State.stationLaw.receive {s : State} (h : s.stationLaw) (c : Byte) : (s.receive c).stationLaw := by
  unfold State.receive
  split
  · exact h
  · exact h
  · split <;> exact (h :)
  · split
    · exact h.dropFrame _
    · split
      · exact h.finishFrame _ _
      · exact (h :)

theorem State.stationLaw.character {s : State} (h : s.stationLaw) (c : Byte) : (s.character c).stationLaw := by
  have hd : ({ s with lu := s.lu.dominant (tailClocks c) } : State).stationLaw := h.of_eq rfl rfl rfl (by simp)
  exact (hd.receive c :)

theorem State.stationLaw.framingFault {s : State} (h : s.stationLaw) : s.framingFault.stationLaw := by
  have hd : ({ s with lu := s.lu.dominant 0 } : State).stationLaw := h.of_eq rfl rfl rfl (by simp)
  unfold State.framingFault
  dsimp only
  split
  · exact (hd :)
  · exact (hd :)
  · exact (hd :)
  · exact (hd.dropFrame _ :)

theorem State.stationLaw.idleLine {s : State} (h : s.stationLaw) : s.idleLine.stationLaw := by
  have hp := h.of_waits (.pass (idleClocks - s.lu.quiet))
  unfold State.idleLine
  dsimp only
  split
  · exact hp
  · exact hp
  · exact (hp :)
  · exact hp.of_eq (by simp) (by simp) (by simp) (by simp)

/-- A slot that is emptied, and one that is left, stay lawful. -/
theorem LinkUnit.SlotInLaw.setSlot {l : LinkUnit} {x : StationState} (h : ∀ slot, l.SlotInLaw x slot) {y : Slot}
    {o : Option Outgoing} (hhome : o.isSome = true → x = y.home) (hframe : ∀ p ∈ o, p.frame.slot = y ∧ p.attempt < 6)
    (slot : Slot) : (l.setSlot y o).SlotInLaw x slot := by
  rcases y.eq_or_eq_other slot with rfl | rfl
  · exact ⟨by simpa using hhome, by simpa using hframe⟩
  · exact (h y.other).of_eq (LinkUnit.slot_setSlot_other l y o)

/-- A frame whose access gap is complete leaves its slot for the line, in the state that is its home (R56). -/
theorem State.stationLaw.accessGap {s : State} (h : s.stationLaw) : s.accessGap.stationLaw := by
  rcases s.accessGap_cases with e | ⟨slot, k, gap, o, -, ho, e⟩ <;> rw [e]
  · exact h
  · obtain ⟨counts, link⟩ := State.stationLaw_iff.mp h
    have hslot := link.slots slot
    obtain ⟨hframe, hattempt⟩ := hslot.frame o ho
    have hhome : s.sc.state = slot.home := hslot.home (by simp [ho])
    refine State.stationLaw_iff.mpr ⟨counts, fun y => ?_, hattempt, hframe.symm ▸ hhome⟩
    have hpass : ∀ z, (s.pass (gapClocks k - gap)).lu.SlotInLaw s.sc.state z := fun z =>
      (link.slots z).of_eq (LinkUnit.slots_eq rfl rfl z)
    exact (LinkUnit.SlotInLaw.setSlot hpass (y := slot) (o := none) (by simp) (by simp) y).of_eq
      (LinkUnit.slots_eq rfl rfl y)

/-- A collision leaves the frame superseded, back in its slot, or abandoned, and then serves the slots (R58). -/
theorem State.stationLaw.collision {s : State} (h : s.stationLaw) : s.collision.stationLaw := by
  obtain ⟨counts, link⟩ := State.stationLaw_iff.mp h
  have hslots : ∀ y, ({ s.lu with receiver := s.lu.receiver.unmark, beganSending := false } : LinkUnit).SlotInLaw
      s.sc.state y := fun y => (link.slots y).of_eq (LinkUnit.slots_eq rfl rfl y)
  cases hx : s.lu.transmitter with
  | idle => rw [State.collision_idle (by simp [hx, Transmitter.isSending])]; exact h
  | waiting y k gap => rw [State.collision_idle (by simp [hx, Transmitter.isSending])]; exact h
  | sending o t =>
    have transmitter := link.transmitter
    simp only [LinkUnit.TransmitterInLaw, hx] at transmitter
    have served : ∀ l : LinkUnit, (∀ y, l.SlotInLaw s.sc.state y) → (l.serve s.sc.address).InLaw s.sc.state := fun l hl =>
      .of_served (a := s.sc.address) (fun y => (hl y).of_eq (LinkUnit.slots_eq (by simp) (by simp) y)) (by simp)
    rcases State.collision_cases hx with ⟨-, e⟩ | ⟨-, hlt, e⟩ | ⟨-, -, e⟩ <;> rw [e]
    · exact State.stationLaw_iff.mpr ⟨counts, served _ hslots⟩
    · exact State.stationLaw_iff.mpr ⟨counts, served _ (LinkUnit.SlotInLaw.setSlot hslots (fun _ => transmitter.2)
        (by simpa using hlt))⟩
    · exact State.stationLaw_iff.mpr ⟨counts, served _ hslots⟩

/-- A frame that has been sent is gone, and the slots are served (R59). -/
theorem State.stationLaw.frameSent {s : State} (h : s.stationLaw) : s.frameSent.stationLaw := by
  obtain ⟨counts, link⟩ := State.stationLaw_iff.mp h
  rcases s.frameSent_cases with e | ⟨o, t, d, -, -, e⟩ <;> rw [e]
  · exact h
  · exact State.stationLaw_iff.mpr ⟨counts,
      .of_served (fun y => (link.slots y).of_eq (LinkUnit.slots_eq rfl rfl y)) rfl⟩

theorem State.stationLaw.of_links {s t : State} (h : s.stationLaw) (m : s.Links t) : t.stationLaw := by
  cases m
  case dominant => exact h.of_eq rfl rfl rfl (by simp)
  case character c => exact h.character c
  case framingFault => exact h.framingFault
  case idleLine => exact h.idleLine
  case accessGap => exact h.accessGap
  case collision => exact h.collision
  case frameSent => exact h.frameSent

/-! ### The cycle -/

theorem State.stationLaw.boundary {s : State} (h : s.stationLaw) : s.boundary.stationLaw := by
  unfold State.boundary
  split
  · exact h
  · exact h
  · next τ _ _ =>
    refine (h.of_waits (.pass (s.cfg.cyclePeriod * msClocks - τ))).of_eq ?_ ?_ ?_ ?_
    all_goals unfold State.atBoundary; split <;> simp

/-- A placed report keeps a lawful side lawful in ACTIVE (R62). -/
theorem State.placeReport_inLaw {s : State} (h : s.lu.InLaw .active) (r : Report) : (s.placeReport r).lu.InLaw .active := by
  have slots : ∀ y, (s.placeReport r).lu.SlotInLaw .active y := by
    refine Slot.forall_iff.mpr ⟨⟨fun _ => rfl, ?_⟩, (h.slots .notice).of_eq (by simp [LinkUnit.slot])⟩
    simp [LinkUnit.slot, Frame.slot]
  have transmitter := h.transmitter
  unfold LinkUnit.TransmitterInLaw at transmitter
  have ht := State.placeReport_transmitter r s
  cases hx : s.lu.transmitter with
  | idle => rw [hx] at ht; exact .of_served slots (a := s.sc.address) (by rw [ht]; simp)
  | waiting y k gap =>
    cases y with
    | report => rw [hx] at ht; exact ⟨slots, by simp [LinkUnit.TransmitterInLaw, ht, LinkUnit.slot]⟩
    | notice =>
      simp only [hx] at ht transmitter
      exact ⟨slots, by simpa [LinkUnit.TransmitterInLaw, ht, LinkUnit.slot] using transmitter⟩
  | sending o t =>
    simp only [hx] at ht transmitter
    exact ⟨slots, by simpa only [LinkUnit.TransmitterInLaw, ht] using transmitter⟩

/-- The report step keeps the law (R60 to R62). -/
theorem State.stationLaw.reportStep {s : State} (h : s.stationLaw) (r : Report) : (s.reportStep r).stationLaw := by
  obtain ⟨⟨listen, mute⟩, link⟩ := State.stationLaw_iff.mp h
  refine State.stationLaw_iff.mpr ⟨⟨by simpa using listen, by simpa using mute⟩, ?_⟩
  rw [State.reportStep_sc_state]
  by_cases ha : s.sc.state = .active
  · rw [State.reportStep_of_active ha, ha]
    exact State.placeReport_inLaw (ha ▸ link.of_untimed rfl rfl rfl) _
  · by_cases hm : s.sc.state = .muted
    · rw [State.reportStep_of_muted hm]
      exact link.of_untimed rfl rfl rfl
    · rw [State.reportStep_of_silent ha hm]
      exact link

/-- The count step keeps the law: it leaves LISTEN and MUTED, in which nothing waits, for ACTIVE (R10, R11, R13). -/
theorem State.stationLaw.countStep {s : State} (h : s.stationLaw) : s.countStep.stationLaw := by
  have ⟨⟨listen, mute⟩, link⟩ := State.stationLaw_iff.mp h
  rw [State.stationLaw_iff, State.countStep_sc, State.countStep_lu]
  cases hx : s.sc.state
  case listen =>
    have silent := link.silent (hx ▸ Slot.listen_ne_home)
    simp only [hx, if_true, reduceCtorEq, if_false] at listen mute
    dsimp only
    split
    · exact ⟨by simp [StationController.CountsInLaw], silent.inLaw _⟩
    · refine ⟨⟨?_, ?_⟩, hx ▸ silent.inLaw _⟩
      · simp only [hx, if_true]; omega
      · simp only [hx, reduceCtorEq, if_false]; exact mute
  case muted =>
    have silent := link.silent (hx ▸ Slot.muted_ne_home)
    simp only [hx, if_true, reduceCtorEq, if_false] at listen mute
    dsimp only
    split
    · exact ⟨by simp [StationController.CountsInLaw], silent.inLaw _⟩
    · refine ⟨⟨?_, ?_⟩, hx ▸ silent.inLaw _⟩
      · simp only [hx, reduceCtorEq, if_false]; exact listen
      · simp only [hx, if_true]; omega
  all_goals exact ⟨⟨listen, mute⟩, link⟩

theorem State.stationLaw.commitPlant {s : State} (h : s.stationLaw) (k : Taken) (f : Figures) :
    (s.commitPlant k f).stationLaw := by
  unfold State.commitPlant
  refine State.stationLaw.reportStep ?_ _
  exact h.of_eq rfl rfl rfl rfl

theorem State.stationLaw.commitCustomer {s : State} (h : s.stationLaw) (k : Taken) (f : Figures) :
    (s.commitCustomer k f).stationLaw := by
  unfold State.commitCustomer
  refine State.stationLaw.reportStep ?_ _
  exact h.of_eq rfl rfl rfl rfl

/-- A completion keeps the law (R93). -/
theorem State.stationLaw.complete {s : State} (h : s.stationLaw) (k : Taken) : (s.complete k).stationLaw := by
  have hs : (s.commitStarved (figures s.sc s.cfg k s.pt.entries).starved).stationLaw :=
    h.of_eq (by simp) (by simp) (by simp) (by simp)
  have done : ∀ u : State, u.stationLaw → u.countStep.openTable.stationLaw := fun u hu =>
    hu.countStep.of_eq (by simp) (by simp) (by simp) (by simp)
  unfold State.complete
  dsimp only
  split
  · exact done _ (hs.commitPlant _ _)
  · exact done _ (hs.commitCustomer _ _)

theorem State.stationLaw.completion {s : State} (h : s.stationLaw) : s.completion.stationLaw := by
  unfold State.completion
  split
  · exact (h.of_waits (.pass _)).complete _
  all_goals exact h

/-! ### Host commands and resets -/

/-- The drives' part of an entry into LISTEN or QUIET touches neither station nor link. -/
theorem State.stationLaw.listenDrives {s : State} (h : s.stationLaw) : s.listenDrives.stationLaw := by
  obtain ⟨mode, count, vd, e⟩ := s.listenDrives_frame
  rw [e]; exact (h :)

theorem State.stationLaw.rejoinDrives {s : State} (h : s.stationLaw) : s.rejoinDrives.stationLaw := by
  obtain ⟨mode, count, vd, e⟩ := s.rejoinDrives_frame
  rw [e]; exact (h :)

theorem State.stationLaw.quietDrives {s : State} (h : s.stationLaw) : s.quietDrives.stationLaw := by
  obtain ⟨mode, vd, e⟩ := s.quietDrives_frame
  rw [e]; exact (h :)

/-- START enters LISTEN with the listen count 2 and a silent sending side (R9, R10). -/
theorem State.stationLaw.startStation {s : State} (h : s.stationLaw) (hc : s.sc.state = .config) :
    s.startStation.stationLaw := by
  obtain ⟨⟨-, mute⟩, link⟩ := State.stationLaw_iff.mp h
  have silent := link.silent (hc ▸ Slot.config_ne_home)
  refine State.stationLaw.listenDrives (State.stationLaw_iff.mpr ⟨⟨by simp, ?_⟩,
    (silent.inLaw .listen).of_untimed rfl rfl rfl⟩)
  simpa [hc] using mute

/-- A notice placed on a silent side is lawful in QUIET (R63). -/
theorem State.placeNotice_inLaw {s : State} (h : s.lu.Silent) : s.placeNotice.lu.InLaw .quiet := by
  refine .of_served (a := s.sc.address) (Slot.forall_iff.mpr ⟨?_, ?_⟩) ?_
  · have hr : s.lu.reportSlot = none := h.empty .report
    exact ⟨by simp [LinkUnit.slot, hr], by simp [LinkUnit.slot, hr]⟩
  · exact ⟨fun _ => rfl, by simp [LinkUnit.slot, Frame.slot]⟩
  · rw [State.placeNotice_transmitter, h.idle, State.placeNotice_lu_reportSlot]

/-- LEAVE withdraws the report, and from ACTIVE leaves a notice, in QUIET (R14, R15). -/
theorem State.stationLaw.leaveNetwork {s : State} (h : s.stationLaw)
    (hx : s.sc.state ∈ [StationState.listen, .active, .muted]) : s.leaveNetwork.stationLaw := by
  obtain ⟨-, link⟩ := State.stationLaw_iff.mp h
  have silent : (s.withdraw .report).lu.Silent := link.withdraw_silent (by rintro hq; simp [hq, Slot.other, Slot.home] at hx)
  unfold State.leaveNetwork
  dsimp only
  refine State.stationLaw.quietDrives (State.stationLaw_iff.mpr ⟨by simp [StationController.CountsInLaw], ?_⟩)
  dsimp only
  split
  · exact State.placeNotice_inLaw silent
  · exact silent.inLaw _

/-- REJOIN withdraws the notice and enters LISTEN with the listen count 2 (R14, R18). -/
theorem State.stationLaw.rejoinNetwork {s : State} (h : s.stationLaw) (hq : s.sc.state = .quiet) :
    s.rejoinNetwork.stationLaw := by
  obtain ⟨⟨-, mute⟩, link⟩ := State.stationLaw_iff.mp h
  have silent : (s.withdraw .notice).lu.Silent := link.withdraw_silent (by simp [hq, Slot.other, Slot.home])
  unfold State.rejoinNetwork
  refine State.stationLaw.rejoinDrives (State.stationLaw_iff.mpr ⟨⟨by simp, ?_⟩, silent.inLaw _⟩)
  simpa [hq] using mute

/-- RESTART withdraws both and enters LISTEN with the listen count 2 (R14, R19). -/
theorem State.stationLaw_softRestart (s : State) : s.softRestart.stationLaw := by
  unfold State.softRestart
  refine State.stationLaw.listenDrives (State.stationLaw_iff.mpr ⟨by simp [StationController.CountsInLaw], ?_⟩)
  exact (s.withdraw_both_silent.inLaw .listen).of_untimed rfl rfl rfl

/-- Every host command keeps the law. -/
theorem State.stationLaw.serves {s t : State} (h : s.stationLaw) (ht : s.Serves t) : t.stationLaw := by
  cases ht
  case stored p x _ _ =>
    obtain ⟨mu, fcu, e⟩ := s.store_frame p x
    rw [e]; exact (h :)
  case started hc _ => exact h.startStation hc
  case released => exact h.of_eq (by simp) (by simp) (by simp) (by simp)
  case resumed => exact h.of_eq (by simp) (by simp) (by simp) (by simp)
  case left hx => exact h.leaveNetwork hx
  case rejoined hq => exact h.rejoinNetwork hq
  case restarted => exact s.stationLaw_softRestart
  all_goals exact (h :)

/-- Every move keeps the law. -/
theorem State.stationLaw.moves {s t : State} (h : s.stationLaw) (ht : s.Moves t) : t.stationLaw := by
  rcases ht.kinds with w | m | l | a | g
  · exact h.of_waits w
  · obtain ⟨u, mu, fcu, latches, counters, w, rfl⟩ := m.frame
    exact (h.of_waits w :)
  · exact h.of_links l
  · obtain ⟨u, vd, w, rfl⟩ := a.frame
    exact (h.of_waits w :)
  · cases g
    case selected => exact h
    case deselected => exact h
    case boundary => exact h.boundary
    case completion => exact h.completion
    case answered hu => exact (h.serves hu :)

/-- A hard reset leaves the law: CONFIG with counts 0, nothing waiting and nothing sent (R7). -/
theorem State.hardReset_stationLaw (s : State) : s.hardReset.stationLaw :=
  State.stationLaw_iff.mpr ⟨by simp [State.hardReset, State.reset, StationController.CountsInLaw],
    LinkUnit.Silent.inLaw ⟨fun slot => by cases slot <;> rfl, rfl⟩ _⟩

/-- Settles O17: a hard reset, its end, and every move keep the law. -/
theorem stepKeepsStationLaw : Obligations.StepKeepsStationLaw := fun _ _ hs h =>
  step_keeps (P := State.stationLaw) (fun _ _ _ hq => hq) (fun s _ => s.hardReset_stationLaw)
    (fun _ _ _ _ _ _ hs => hs) (fun _ _ _ hs hm => hs.moves hm) hs h

end Sys2Proof.Machine
end

section
/-! The Valve Drive through every move: what a move can do to it, the dwell between pulses of opposite directions (R152, R154),
and the range of the estimate (R153). -/

namespace Sys2Proof.Machine

/-! ### What a move does to the Valve Drive -/

/-- What a move other than the end of a dwell can do to the Valve Drive. -/
inductive ValveDrive.Acts (cfg : ConfigSet) (v : ValveDrive) : ValveDrive → Prop
  | stay : v.Acts cfg v
  | pulseEnds (p : Pulse) (n : Nat) : v.drive = .pulsing { p with timer := n } → v.Acts cfg (v.pulseEnds cfg p)
  | seekEnds (p : Pulse) (n : Nat) : v.drive = .pulsing { p with timer := n } → v.Acts cfg (v.seekEnds cfg p)
  | target (n : Nat) : v.Acts cfg (v.target cfg n)
  | beginSeek : v.Acts cfg (v.beginSeek cfg)
  | stop : v.Acts cfg (v.stop cfg)
  | stopAndSeek : v.Acts cfg ((v.stop cfg).beginSeek cfg)

theorem ValveDrive.Acts.seekIfUnknown (cfg : ConfigSet) (v : ValveDrive) : v.Acts cfg (v.seekIfUnknown cfg) := by
  unfold ValveDrive.seekIfUnknown
  split
  · exact .beginSeek
  · exact .stay

/-- The pulse of a drive after time has passed differs from that before in its timer alone. -/
theorem State.pass_vd_pulsing {s : State} {p : Pulse} (h : s.vd.drive = .pulsing p) (d : Nat) :
    ∃ n, (s.pass d).vd.drive = .pulsing { p with timer := n } := by
  cases hr : s.sc.role with
  | plant => exact ⟨p.timer, by rw [State.pass_vd_of_plant hr, h]⟩
  | customer => exact ⟨p.timer + d, by rw [State.pass_vd_of_customer hr]; simp [h, Drive.pass]⟩

/-- The customer's part of a completion: its target, if it issues one, reaches the Valve Drive (R93, R115). -/
theorem State.commitCustomer_vd (s : State) (k : Taken) (f : Figures) : (s.commitCustomer k f).vd =
    match (customerLaw s.sc.state s.cfg k s.fe.request f).target with
    | some target => s.vd.target s.cfg target
    | none => s.vd := by
  simp [State.commitCustomer] <;> rfl

theorem State.complete_vd_acts (k : Taken) (s : State) : s.vd.Acts s.cfg (s.complete k).vd := by
  unfold State.complete
  dsimp only
  rw [State.openTable_vd, State.countStep_vd]
  split
  · simpa using ValveDrive.Acts.stay
  · rw [State.commitCustomer_vd]
    split
    · simpa using ValveDrive.Acts.target _
    · simpa using ValveDrive.Acts.stay

/-- A host command reaches the Valve Drive by an end-seek or a stop (R9, R16, R18, R19, R164). -/
theorem State.Serves.vd_acts {s t : State} (h : s.Serves t) : s.vd.Acts s.cfg t.vd := by
  cases h
  case stored p x _ _ =>
    obtain ⟨mu, fcu, e⟩ := s.store_frame p x
    rw [e]; exact .stay
  case started =>
    unfold State.startStation State.listenDrives
    split
    · exact .stay
    · exact .seekIfUnknown _ _
  case released => simpa using ValveDrive.Acts.stay
  case resumed => simpa using ValveDrive.Acts.stay
  case sought => exact .beginSeek
  case left =>
    have hvd : ∀ b : Bool, (if b then (s.withdraw .report).placeNotice else s.withdraw .report).vd = s.vd ∧
        (if b then (s.withdraw .report).placeNotice else s.withdraw .report).cfg = s.cfg := by
      intro b; cases b <;> simp
    unfold State.leaveNetwork State.quietDrives
    dsimp only
    split
    · rw [(hvd _).1]; exact .stay
    · rw [(hvd _).1, (hvd _).2]; exact .stop
  case rejoined =>
    unfold State.rejoinNetwork State.rejoinDrives
    dsimp only
    split
    · simpa using ValveDrive.Acts.stay
    · split
      · simpa using ValveDrive.Acts.stay
      · simpa using ValveDrive.Acts.seekIfUnknown s.cfg s.vd
  case restarted =>
    unfold State.softRestart State.listenDrives
    dsimp only
    simp only [State.withdraw_sc, State.withdraw_vd, State.withdraw_cfg]
    cases s.sc.role with
    | plant => exact .stay
    | customer =>
      dsimp only
      unfold ValveDrive.seekIfUnknown
      split
      · exact .stopAndSeek
      · exact .stop
  all_goals exact .stay

/-- What a move does to the Valve Drive: time passes for it, or does not, and then it acts in one of the ways above, unless the
move is the end of a dwell. -/
theorem State.Moves.vd_cases {s t : State} (h : s.Moves t) :
    t = s.dwellEnd ∨ ∃ u, s.Waits u ∧ u.vd.Acts s.cfg t.vd := by
  rcases h.kinds with w | m | l | a | g
  · exact .inr ⟨t, w, .stay⟩
  · obtain ⟨u, mu, fcu, latches, counters, w, rfl⟩ := m.frame
    exact .inr ⟨u, w, .stay⟩
  · obtain ⟨u, w, r⟩ := l.frame
    cases r
    exact .inr ⟨u, w, .stay⟩
  · cases a
    case dwellEnd => exact .inl rfl
    case pulseEnd =>
      right
      unfold State.pulseEnd
      split
      · next p hp =>
        split
        · exact ⟨s, .none, .stay⟩
        · obtain ⟨n, hn⟩ := State.pass_vd_pulsing hp (p.length * msClocks - p.timer)
          exact ⟨_, .pass _, .pulseEnds p n hn⟩
      · exact ⟨s, .none, .stay⟩
      · exact ⟨s, .none, .stay⟩
    case seekEnd =>
      right
      unfold State.seekEnd
      split
      · next p hp =>
        split
        · obtain ⟨n, hn⟩ := State.pass_vd_pulsing hp (p.length * msClocks - p.timer)
          exact ⟨_, .pass _, .seekEnds p n hn⟩
        · exact ⟨s, .none, .stay⟩
      · exact ⟨s, .none, .stay⟩
      · exact ⟨s, .none, .stay⟩
  · right
    cases g
    case boundary =>
      unfold State.boundary
      split
      · exact ⟨s, .none, .stay⟩
      · exact ⟨s, .none, .stay⟩
      · next τ _ _ =>
        refine ⟨s.pass (s.cfg.cyclePeriod * msClocks - τ), .pass _, ?_⟩
        unfold State.atBoundary
        split <;> simpa using ValveDrive.Acts.stay
    case completion =>
      unfold State.completion
      split
      · next k _ =>
        exact ⟨_, .pass _, State.complete_vd_acts k (s.pass (s.computationClocks - s.cu.timer.getD 0))⟩
      all_goals exact ⟨s, .none, .stay⟩
    case answered hu => exact ⟨s, .none, hu.vd_acts⟩
    all_goals exact ⟨s, .none, .stay⟩

/-! ### The dwell (R152, R154) -/

/-- From one moment to the next no pulse starts before the dwell, unless in the direction of the last end, and every pulse that
ends is recorded as the last end with the dwell timer at 0. -/
def ValveDrive.KeepsDwell (cfg : ConfigSet) (v w : ValveDrive) : Prop := ∀ d : Direction,
  (v.drives d = false → w.drives d = true → w.lastEnd = d.asEnd ∨ cfg.dwell * msClocks ≤ w.dwellTimer) ∧
  (v.drives d = true → w.drives d = false → w.lastEnd = d.asEnd ∧ w.dwellTimer = 0)

/-- In `w` every pulse that `v` drives has been recorded as ended. -/
def ValveDrive.EndedIn (v w : ValveDrive) : Prop := ∀ d : Direction, v.drives d = true → w.lastEnd = d.asEnd ∧ w.dwellTimer = 0

section
variable {cfg : ConfigSet} {v w : ValveDrive}

theorem ValveDrive.KeepsDwell.of_drives (h : ∀ d, w.drives d = v.drives d) : v.KeepsDwell cfg w := fun d =>
  ⟨fun h1 h2 => by simp [h, h1] at h2, fun h1 h2 => by simp [h, h1] at h2⟩

/-- What is driven is read off the drive alone. -/
theorem ValveDrive.drives_of_drive (h : w.drive = v.drive) (d : Direction) : w.drives d = v.drives d := by
  simp [ValveDrive.drives, h]

theorem ValveDrive.drives_of_pulsing {p : Pulse} (h : v.drive = .pulsing p) (d : Direction) :
    v.drives d = (p.direction == d) := by simp [ValveDrive.drives, h]

theorem ValveDrive.drives_of_not_pulsing (h : ∀ p, v.drive ≠ .pulsing p) (d : Direction) : v.drives d = false := by
  unfold ValveDrive.drives
  split <;> simp_all

theorem ValveDrive.EndedIn.of_not_pulsing (h : ∀ p, v.drive ≠ .pulsing p) : v.EndedIn w := fun d hd => by
  simp [ValveDrive.drives_of_not_pulsing h] at hd

theorem ValveDrive.EndedIn.of_pulsing {p : Pulse} (h : v.drive = .pulsing p) (hl : w.lastEnd = p.direction.asEnd)
    (ht : w.dwellTimer = 0) : v.EndedIn w := fun d hd => by
  rw [ValveDrive.drives_of_pulsing h, beq_iff_eq] at hd
  exact ⟨hd ▸ hl, ht⟩

/-- A drive that has ended what it drove, and drives nothing, has kept the dwell. -/
theorem ValveDrive.KeepsDwell.of_ended (h : v.EndedIn w) (hw : ∀ p, w.drive ≠ .pulsing p) : v.KeepsDwell cfg w := fun d =>
  ⟨fun _ hd => by simp [ValveDrive.drives_of_not_pulsing hw] at hd, fun hd _ => h d hd⟩

/-- So has one that then begins a pulse if permitted (R154). -/
theorem ValveDrive.KeepsDwell.beginOrWait (h : v.EndedIn w) (x : Demand) : v.KeepsDwell cfg (w.beginOrWait cfg x) := by
  intro d
  rw [ValveDrive.beginOrWait_lastEnd, ValveDrive.beginOrWait_dwellTimer]
  refine ⟨fun _ hd => ?_, fun hd _ => h d hd⟩
  obtain ⟨p, hp, rfl⟩ := ValveDrive.drives_iff.mp hd
  obtain ⟨-, hdir, hpermit⟩ := ValveDrive.beginOrWait_pulse (ValveDrive.pulse_eq_some.mpr hp)
  exact hdir ▸ hpermit

/-- Ending any pulse records it. -/
theorem ValveDrive.endAny_ended (v : ValveDrive) : v.EndedIn v.endAny := by
  cases h : v.drive with
  | pulsing p => exact .of_pulsing h (by rw [ValveDrive.endAny_of_pulsing h]) (by rw [ValveDrive.endAny_of_pulsing h])
  | _ => exact .of_not_pulsing (by simp [h])

theorem ValveDrive.endAny_not_pulsing (v : ValveDrive) (p : Pulse) : v.endAny.drive ≠ .pulsing p := by
  unfold ValveDrive.endAny
  split <;> simp_all

/-- What is recorded as ended is read off the drive before and the last end after. -/
theorem ValveDrive.EndedIn.congr {v' w' : ValveDrive} (h : v.EndedIn w) (hv : v'.drive = v.drive)
    (hl : w'.lastEnd = w.lastEnd) (ht : w'.dwellTimer = w.dwellTimer) : v'.EndedIn w' := fun d hd =>
  hl ▸ ht ▸ h d (ValveDrive.drives_of_drive hv d ▸ hd)

/-- The dwell kept is read off what is driven before, and the drive, last end and dwell timer after. -/
theorem ValveDrive.KeepsDwell.congr {v' w' : ValveDrive} (h : v.KeepsDwell cfg w) (hv : ∀ d, v'.drives d = v.drives d)
    (hw : w'.drive = w.drive) (hl : w'.lastEnd = w.lastEnd) (ht : w'.dwellTimer = w.dwellTimer) :
    v'.KeepsDwell cfg w' := fun d => by
  rw [hv, ValveDrive.drives_of_drive hw, hl, ht]
  exact h d

end

/-- An end-seek ends what is driven and begins if permitted (R162). -/
theorem ValveDrive.beginSeek_keepsDwell (cfg : ConfigSet) (v : ValveDrive) : v.KeepsDwell cfg (v.beginSeek cfg) := by
  unfold ValveDrive.beginSeek
  refine ValveDrive.KeepsDwell.beginOrWait ?_ _
  exact (v.upToDate cfg).endAny_ended.congr (v.upToDate_drive cfg).symm rfl rfl

/-- Acting on a target ends, continues or begins as R156 to R159 say. -/
theorem ValveDrive.act_keepsDwell (cfg : ConfigSet) (target e : Nat) (v : ValveDrive) :
    v.KeepsDwell cfg (v.act cfg target e) := by
  unfold ValveDrive.act
  dsimp only
  split
  case h_1 => exact .of_drives fun _ => rfl
  case h_2 h _ => exact .beginOrWait (.of_not_pulsing (by simp [h])) _
  case h_3 h _ => exact .of_ended (.of_pulsing h rfl rfl) (by simp)
  case h_4 p w h _ =>
    split
    · exact .of_drives fun d => by simp [ValveDrive.drives, h]
    · exact .of_ended (.of_pulsing h rfl rfl) (by simp)
  case h_5 h _ => exact .of_ended (.of_not_pulsing (by simp [h])) (by simp)
  case h_6 h _ => exact .beginOrWait (.of_not_pulsing (by simp [h])) _

theorem ValveDrive.target_keepsDwell (cfg : ConfigSet) (target : Nat) (v : ValveDrive) :
    v.KeepsDwell cfg (v.target cfg target) := by
  have same := ValveDrive.drives_of_drive (v.upToDate_drive cfg).symm
  unfold ValveDrive.target
  split
  · exact .of_drives fun _ => rfl
  · dsimp only
    split
    · exact ((v.upToDate cfg).beginSeek_keepsDwell cfg).congr same rfl rfl rfl
    · exact ((v.upToDate cfg).act_keepsDwell cfg target _).congr same rfl rfl rfl

theorem ValveDrive.stop_ended (cfg : ConfigSet) (v : ValveDrive) : v.EndedIn (v.stop cfg) :=
  (v.upToDate cfg).endAny_ended.congr (v.upToDate_drive cfg).symm rfl rfl

/-- The end of a seek ends it and then acts on the target pending (R163). -/
theorem ValveDrive.seekEnds_keepsDwell {cfg : ConfigSet} {p : Pulse} {n : Nat} {v : ValveDrive}
    (h : v.drive = .pulsing { p with timer := n }) : v.KeepsDwell cfg (v.seekEnds cfg p) := by
  unfold ValveDrive.seekEnds
  dsimp only
  split
  · exact .of_ended (.of_pulsing h rfl rfl) (by simp)
  · unfold ValveDrive.act
    dsimp only
    split
    case h_1 => exact .of_ended (.of_pulsing h rfl rfl) (by simp)
    case h_2 => exact .beginOrWait (.of_pulsing h rfl rfl) _
    all_goals simp_all

theorem ValveDrive.Acts.keepsDwell {cfg : ConfigSet} {v w : ValveDrive} (h : v.Acts cfg w) : v.KeepsDwell cfg w := by
  cases h
  case stay => exact .of_drives fun _ => rfl
  case pulseEnds p n hp => exact .of_ended (.of_pulsing hp rfl rfl) (by simp [ValveDrive.pulseEnds])
  case seekEnds p n hp => exact ValveDrive.seekEnds_keepsDwell hp
  case target n => exact v.target_keepsDwell cfg n
  case beginSeek => exact v.beginSeek_keepsDwell cfg
  case stop => exact .of_ended (v.stop_ended cfg) (by simp [ValveDrive.stop])
  case stopAndSeek =>
    have hstop : ∀ p, (v.stop cfg).drive ≠ .pulsing p := by simp [ValveDrive.stop]
    unfold ValveDrive.beginSeek
    dsimp only
    rw [ValveDrive.upToDate_of_not_pulsing hstop, ValveDrive.endAny_of_not_pulsing hstop]
    exact .beginOrWait (v.stop_ended cfg) _

/-- Time that passes leaves what is driven. -/
theorem State.Waits.vd_drives {s u : State} (w : s.Waits u) (d : Direction) : s.vd.drives d = u.vd.drives d := by
  cases w
  case none => rfl
  case pass n =>
    cases hr : s.sc.role with
    | plant => rw [State.pass_vd_of_plant hr]
    | customer =>
      rw [State.pass_vd_of_customer hr]
      unfold ValveDrive.drives
      rw [ValveDrive.pass_drive]
      cases s.vd.drive <;> rfl

/-- The end of a dwell begins what waits, with the dwell timer at dwell (R161). -/
theorem State.dwellEnd_keepsDwell {s : State} (hr : s.sc.role = .customer) : s.vd.KeepsDwell s.cfg s.dwellEnd.vd := by
  unfold State.dwellEnd
  split
  · next w hw =>
    intro d
    refine ⟨fun _ _ => .inr ?_, fun hd => by simp [ValveDrive.drives, hw] at hd⟩
    have reached : ∀ x, (s.vd.pass (s.cfg.dwell * msClocks - s.vd.dwellTimer) |>.dwellEnds x).dwellTimer =
        s.vd.dwellTimer + (s.cfg.dwell * msClocks - s.vd.dwellTimer) := by
      intro x; cases x <;> rfl
    dsimp only
    rw [State.pass_vd_of_customer hr, reached]
    omega
  all_goals exact .of_drives fun _ => rfl

/-- Every move of a customer keeps the dwell. -/
theorem State.Moves.keepsDwell {s t : State} (h : s.Moves t) (hr : s.sc.role = .customer) : s.vd.KeepsDwell s.cfg t.vd := by
  rcases h.vd_cases with rfl | ⟨u, w, a⟩
  · exact State.dwellEnd_keepsDwell hr
  · exact a.keepsDwell.congr w.vd_drives rfl rfl rfl

/-- Settles O20: no drive has two directions, and every move keeps the dwell. -/
theorem pulsesKeepTheDwell : Obligations.PulsesKeepTheDwell := by
  intro c s t hr hc he
  refine ⟨t.vd.not_both_driven, fun v d => ValveDrive.drives_iff, ?_⟩
  rcases exec_cases_of_ne hc he with ⟨_, _, _, _, -, -, rfl⟩ | rfl | ⟨-, hm⟩
  · exact ValveDrive.KeepsDwell.of_drives fun _ => rfl
  · exact ValveDrive.KeepsDwell.of_drives fun _ => rfl
  · exact hm.keepsDwell hr

/-! ### The estimate (R153) -/

/-- A known estimate, and the estimate a pulse in flight started from, are at most 10000. -/
def ValveDrive.InLaw (v : ValveDrive) : Prop :=
  (∀ e ∈ v.estimate, e ≤ 10000) ∧ ∀ p ∈ v.pulse, ∀ e ∈ p.start, e ≤ 10000

section
variable {cfg : ConfigSet} {v : ValveDrive}

/-- A drive that pulses nothing is lawful by its estimate alone. -/
theorem ValveDrive.InLaw.of_not_pulsing (he : ∀ e ∈ v.estimate, e ≤ 10000) (hp : ∀ p, v.drive ≠ .pulsing p) : v.InLaw :=
  ⟨he, fun p h => absurd (ValveDrive.pulse_eq_some.mp h) (hp p)⟩

theorem ValveDrive.InLaw.beginOrWait (he : ∀ e ∈ v.estimate, e ≤ 10000) (x : Demand) : (v.beginOrWait cfg x).InLaw := by
  refine ⟨by simpa using he, fun p hp => ?_⟩
  rw [(ValveDrive.beginOrWait_pulse hp).1]
  exact he

/-- A drive brought up to date has a lawful estimate (R153). -/
theorem ValveDrive.InLaw.upToDate (h : v.InLaw) : (v.upToDate cfg).InLaw := by
  refine ⟨?_, ?_⟩
  · rw [ValveDrive.upToDate_eq]
    dsimp only
    split
    · next p hp => exact Pulse.reckon_le (h.2 p (ValveDrive.pulse_eq_some.mpr hp)) cfg p.ms
    · exact h.1
    · exact h.1
  · have : (v.upToDate cfg).pulse = v.pulse := by simp [ValveDrive.pulse]
    exact this ▸ h.2

theorem ValveDrive.InLaw.beginSeek (h : v.InLaw) : (v.beginSeek cfg).InLaw := by
  unfold ValveDrive.beginSeek
  exact .beginOrWait (by simpa using h.upToDate.1) _

theorem ValveDrive.InLaw.act (h : v.InLaw) (target e : Nat) : (v.act cfg target e).InLaw := by
  unfold ValveDrive.act
  dsimp only
  split
  case h_1 => exact h
  case h_2 => exact .beginOrWait h.1 _
  case h_3 => exact .of_not_pulsing h.1 (by simp)
  case h_4 p w hp _ =>
    split
    · refine ⟨h.1, fun q hq => ?_⟩
      cases hq
      exact h.2 p (ValveDrive.pulse_eq_some.mpr hp)
    · exact .of_not_pulsing h.1 (by simp)
  case h_5 => exact .of_not_pulsing h.1 (by simp)
  case h_6 => exact .beginOrWait h.1 _

theorem Direction.endValue_le (d : Direction) : d.endValue ≤ 10000 := by cases d <;> simp [Direction.endValue]

theorem ValveDrive.Acts.inLaw {w : ValveDrive} (h : v.Acts cfg w) (hv : v.InLaw) : w.InLaw := by
  have stopped : (v.stop cfg).InLaw := .of_not_pulsing (by simpa [ValveDrive.stop] using hv.upToDate.1) (by simp [ValveDrive.stop])
  cases h
  case stay => exact hv
  case pulseEnds p n hp =>
    have hstart : ∀ e ∈ p.start, e ≤ 10000 := hv.2 { p with timer := n } (ValveDrive.pulse_eq_some.mpr hp)
    refine .of_not_pulsing ?_ (by simp [ValveDrive.pulseEnds])
    unfold ValveDrive.pulseEnds
    dsimp only
    split
    · exact Pulse.reckon_le hstart cfg p.length
    · simpa using p.direction.endValue_le
    · simpa using p.direction.endValue_le
  case seekEnds p n hp =>
    have ended : ∀ g, (⟨some p.direction.endValue, .idle, g, p.direction.asEnd, 0⟩ : ValveDrive).InLaw := fun g =>
      .of_not_pulsing (by simpa using p.direction.endValue_le) (by simp)
    unfold ValveDrive.seekEnds
    dsimp only
    split
    · exact ended none
    · exact (ended none).act _ _
  case target n =>
    unfold ValveDrive.target
    split
    · exact hv
    · dsimp only
      split
      · exact hv.upToDate.beginSeek
      · exact hv.upToDate.act _ _
  case beginSeek => exact hv.beginSeek
  case stop => exact stopped
  case stopAndSeek => exact stopped.beginSeek

end

/-- Time that passes keeps the estimate and the pulse's start. -/
theorem State.Waits.vd_inLaw {s u : State} (w : s.Waits u) (h : s.vd.InLaw) : u.vd.InLaw := by
  cases w
  case none => exact h
  case pass d =>
    cases hr : s.sc.role with
    | plant => rw [State.pass_vd_of_plant hr]; exact h
    | customer =>
      rw [State.pass_vd_of_customer hr]
      refine ⟨h.1, fun p hp => ?_⟩
      rw [Option.mem_def, ValveDrive.pulse_eq_some, ValveDrive.pass_drive] at hp
      cases hx : s.vd.drive with
      | pulsing q =>
        rw [hx] at hp
        cases hp
        exact h.2 q (ValveDrive.pulse_eq_some.mpr hx)
      | idle => simp [hx, Drive.pass] at hp
      | dwelling x => simp [hx, Drive.pass] at hp

/-- The end of a dwell starts a pulse from the estimate. -/
theorem State.dwellEnd_inLaw {s : State} (h : s.vd.InLaw) : s.dwellEnd.vd.InLaw := by
  unfold State.dwellEnd
  split
  · next w _ =>
    have hp := (State.Waits.pass (s := s) (s.cfg.dwell * msClocks - s.vd.dwellTimer)).vd_inLaw h
    cases w with
    | none => exact .of_not_pulsing hp.1 (by simp [ValveDrive.dwellEnds])
    | some x =>
      refine ⟨hp.1, fun p hx => ?_⟩
      cases hx
      exact hp.1
  all_goals exact h

/-- Settles O19: no move takes the estimate, or that of a pulse in flight, out of 0..10000. -/
theorem stepKeepsValveLaw : Obligations.StepKeepsValveLaw := fun _ _ hs h =>
  step_keeps (P := State.valveLaw) (fun _ _ _ hq => hq) (fun s _ => ⟨nofun, nofun⟩) (fun _ _ _ _ _ _ hs => hs)
    (fun _ _ _ hs hm => by
      rcases hm.vd_cases with rfl | ⟨u, w, a⟩
      · exact State.dwellEnd_inLaw hs
      · exact a.inLaw (w.vd_inLaw hs)) hs h

end Sys2Proof.Machine
end

section
/-! Rules of the whole machine: what no command but a hard reset and its end changes, when the configuration set stands, and how
the station state and the cycle unit state move (R1, R3, R5, R7, R87, R99). -/

namespace Sys2Proof.Machine

/-! ### Which command does what -/

/-- What each host command can do to a state, its answer apart: nothing, or, when it is taken, its own effect (Table 10.1). -/
inductive State.Obeys (s : State) : Instr → State → Prop
  | unchanged (c : Instr) : s.Obeys c s
  | stored (id : Byte) (v : Word16) (p : Param) (x : Int) : s.sc.state = .config → s.Obeys (.configure id v) (s.store p x)
  | started : s.sc.state = .config → s.Obeys .start s.startStation
  | requestSet (v : Word16) : s.Obeys (.setRequest v) { s with fe.request := min 10000 v.toNat }
  | availableSet (v : Byte) (b : Bool) : s.Obeys (.setAvailable v) { s with sc.available := b }
  | targetSet (v : Word16) : s.Obeys (.setTarget v) { s with cfg.mTarget := (clamp 0 5000 v.toInt).toNat }
  | countersCleared (o : Byte) : s.Obeys (.readCounters o) { s with sp.counters := Counters.zero }
  | latchesCleared (mask : Byte) : s.Obeys (.ackLatches mask) { s with sp.latches := s.sp.latches &&& ~~~mask }
  | held : s.cu.state = .opened → s.Obeys .hold { s with cu.state := .held }
  | released : s.cu.state = .held → s.Obeys .release s.openTable
  | resumed : s.cu.state = .heldPending → s.Obeys .release s.agingPass.startComputation
  | sought : s.Obeys .reseek { s with vd := s.vd.beginSeek s.cfg }
  | left : s.Obeys .leave s.leaveNetwork
  | rejoined : s.Obeys .rejoin s.rejoinNetwork
  | restarted : s.Obeys .restart s.softRestart

theorem State.Obeys.of_boundTo {s : State} {c : Instr} {r : Role} {f : State → Reply} (h : s.Obeys c (f s).2) :
    s.Obeys c (boundTo r f s).2 := by
  by_cases hr : s.sc.role = r
  · rw [boundTo_of_role hr]; exact h
  · rw [boundTo_of_ne hr]; exact .unchanged c

theorem State.Obeys.of_takenIn {s : State} {c : Instr} {xs : List StationState} {f : State → Reply}
    (h : s.sc.state ∈ xs → s.Obeys c (f s).2) : s.Obeys c (takenIn xs f s).2 := by
  by_cases hx : s.sc.state ∈ xs
  · rw [takenIn_of_mem hx]; exact h hx
  · rw [takenIn_of_not_mem hx]; exact .unchanged c

theorem replyOf_obeys (c : Instr) (s : State) : s.Obeys c (replyOf c s).2 := by
  cases c
  case configure id v =>
    refine .of_takenIn fun hx => ?_
    split
    · exact .unchanged _
    · split
      · exact .stored _ _ _ _ (by simpa using hx)
      · exact .unchanged _
  case start =>
    refine .of_takenIn fun hx => ?_
    split
    · exact .started (by simpa using hx)
    · exact .unchanged _
  case setRequest v => exact .of_boundTo (.requestSet v)
  case setAvailable v =>
    refine .of_boundTo ?_
    split
    · exact .availableSet v false
    · split
      · exact .availableSet v true
      · exact .unchanged _
  case setTarget v => exact .of_boundTo (.targetSet v)
  case readFigures =>
    simp only [replyOf, replyReadFigures]
    split <;> exact .unchanged _
  case readPeer a =>
    simp only [replyOf, replyReadPeer]
    split
    · split <;> exact .unchanged _
    · exact .unchanged _
  case readCounters o =>
    simp only [replyOf, replyReadCounters]
    split
    · exact .unchanged _
    · split
      · exact .countersCleared o
      · exact .unchanged _
  case ackLatches m => exact .latchesCleared m
  case hold =>
    refine .of_takenIn fun _ => ?_
    split
    · exact .held ‹_›
    all_goals exact .unchanged _
  case release =>
    refine .of_takenIn fun _ => ?_
    split
    · exact .released ‹_›
    · exact .resumed ‹_›
    all_goals exact .unchanged _
  case reseek =>
    refine .of_boundTo (.of_takenIn fun _ => ?_)
    split
    · exact .unchanged _
    · exact .sought
  case leave => exact .of_takenIn fun _ => .left
  case rejoin => exact .of_takenIn fun _ => .rejoined
  case restart => exact .of_takenIn fun _ => .restarted
  all_goals exact .unchanged _

/-- The row of a host command is the end of a select period that carries it (assumption log 9). -/
theorem exec_of_host {c : Instr} (h : (takenRoleStates c).isSome = true) (s : State) :
    exec c s = s.event (State.portCommand (replyOf c)) := by
  cases c <;> simp [takenRoleStates] at h <;> rfl

/-- What happens of itself but a boundary and a completion: it leaves the cycle unit, the configuration and the Figures
Engine. -/
inductive State.Happens (s : State) : State → Prop
  | waits {t : State} : s.Waits t → s.Happens t
  | measures {t : State} : s.Measures t → s.Happens t
  | links {t : State} : s.Links t → s.Happens t
  | actuates {t : State} : s.Actuates t → s.Happens t
  | selected : s.Happens { s with sp.select := some [], sp.ssnHigh := false }

theorem State.Happens.of_ite {s t u : State} {p : Prop} [Decidable p] (ht : s.Happens t) (hu : s.Happens u) :
    s.Happens (if p then t else u) := by
  split
  · exact ht
  · exact hu

theorem State.Happens.of_whenOutcome {s : State} {event : State → State} (outcome : State → State → Bool)
    (h : s.Happens (event s)) : s.Happens (s.whenOutcome event outcome) :=
  .of_ite h (.waits .none)

/-- The row of an event of the part other than a reset, a boundary's row and a completion's row. -/
theorem exec_of_happening {c : Instr} (hhost : takenRoleStates c = none) (hr : c ≠ .hardReset)
    (he : ∀ a role flowin ssn, c ≠ .endOfHardReset a role flowin ssn) (hu : ∀ bits, c ≠ .unknownCommand bits)
    (hb : ¬ boundaryRow c) (hd : ¬ completionRow c) (s : State) :
    ∃ f : State → State, exec c s = s.event f ∧ s.Happens (f s) := by
  cases c
  case conversionCompletion code => exact ⟨_, rfl, .measures (.conversion code)⟩
  case channelAbsent n code => exact ⟨_, rfl, .of_whenOutcome _ (.measures (.conversion code))⟩
  case channelRecovered n code => exact ⟨_, rfl, .of_whenOutcome _ (.measures (.conversion code))⟩
  case flowCapture v => exact ⟨_, rfl, .measures (.flowCapture v)⟩
  case flowTimeout => exact ⟨_, rfl, .measures .flowTimeout⟩
  case flowinLowAccepted => exact ⟨_, rfl, .measures .flowinLow⟩
  case quietTimeIdle => exact ⟨_, rfl, .links .idleLine⟩
  case rxFormatFault fault =>
    refine ⟨_, rfl, ?_⟩
    cases fault with
    | framing => exact .links .framingFault
    | length l => exact .of_ite (.links (.character l)) (.waits .none)
  case frameComplete x => exact ⟨_, rfl, .of_ite (.links (.character x)) (.waits .none)⟩
  case accessGapComplete => exact ⟨_, rfl, .links .accessGap⟩
  case collision => exact ⟨_, rfl, .links .collision⟩
  case frameAbandoned => exact ⟨_, rfl, .of_ite (.links .collision) (.waits .none)⟩
  case frameSent => exact ⟨_, rfl, .links .frameSent⟩
  case characterCompleted x => exact ⟨_, rfl, .links (.character x)⟩
  case lineBusy => exact ⟨fun s => { s with lu := s.lu.dominant 0 }, rfl, .links .dominant⟩
  case pulseEnd => exact ⟨_, rfl, .actuates .pulseEnd⟩
  case dwellEnd => exact ⟨_, rfl, .actuates .dwellEnd⟩
  case seekEnd => exact ⟨_, rfl, .actuates .seekEnd⟩
  case selectPeriodBegin => exact ⟨_, rfl, .of_ite .selected (.waits .none)⟩
  case hardReset => exact absurd rfl hr
  case endOfHardReset a role flowin ssn => exact absurd rfl (he a role flowin ssn)
  case unknownCommand bits => exact absurd rfl (hu bits)
  case boundary => exact absurd (.inl rfl) hb
  case entryStale a => exact absurd (.inr (.inl ⟨a, rfl⟩)) hb
  case entryRemoved a => exact absurd (.inr (.inr ⟨a, rfl⟩)) hb
  case computationCompletion => exact absurd (.inl rfl) hd
  case enterActive => exact absurd (.inr (.inl rfl)) hd
  case enterFallback => exact absurd (.inr (.inr rfl)) hd
  all_goals simp [takenRoleStates] at hhost

/-- A boundary's row is a boundary, or, where it names an outcome that the boundary has not, no event (assumption log 6). -/
theorem exec_of_boundaryRow {c : Instr} (h : boundaryRow c) (s : State) :
    ∃ f : State → State, exec c s = s.event f ∧
      (f s = s ∨ f s = s.boundary ∧ (c = .boundary ∨ s.boundary.pt ≠ s.pt)) := by
  rcases h with rfl | ⟨a, rfl⟩ | ⟨a, rfl⟩
  · exact ⟨_, rfl, .inr ⟨rfl, .inl rfl⟩⟩
  all_goals
    refine ⟨_, rfl, ?_⟩
    rcases State.whenOutcome_cases State.boundary _ s with ⟨e, ho⟩ | ⟨e, -⟩
    · refine .inr ⟨e, .inr fun hpt => ?_⟩
      rw [hpt] at ho
      cases hf : s.pt.find a.toNat with
      | none => simp [hf] at ho
      | some e => cases he : e.state <;> simp [hf, he] at ho
    · exact .inl e

/-- A completion's row is a completion, or no event. -/
theorem exec_of_completionRow {c : Instr} (h : completionRow c) (s : State) :
    ∃ f : State → State, exec c s = s.event f ∧ (f s = s ∨ f s = s.completion) := by
  rcases h with rfl | rfl | rfl
  · exact ⟨_, rfl, .inr rfl⟩
  all_goals
    refine ⟨_, rfl, ?_⟩
    rcases State.whenOutcome_cases State.completion _ s with ⟨e, -⟩ | ⟨e, -⟩
    · exact .inr e
    · exact .inl e

/-- What a command other than a hard reset and an UNKNOWN_COMMAND can do, with the command that does it. -/
theorem exec_cases_by_command {c : Instr} {s t : State} (hc : c ≠ .hardReset) (hu : ∀ bits, c ≠ .unknownCommand bits)
    (h : exec c s = .next t) :
    t = s ∨
    (∃ a role flowin ssn, c = .endOfHardReset a role flowin ssn ∧ s.inReset = true ∧
      t = s.endOfReset a role flowin ssn) ∨
    s.Happens t ∨
    boundaryRow c ∧ t = s.boundary ∧ (c = .boundary ∨ s.boundary.pt ≠ s.pt) ∨
    completionRow c ∧ t = s.completion ∨
    t = s.deselect ∨
    ∃ u r, s.Obeys c u ∧ t = u.deselect.answer r := by
  by_cases he : ∃ a role flowin ssn, c = .endOfHardReset a role flowin ssn
  · rcases exec_cases_of_ne hc h with he | rfl | ⟨-, -⟩
    · exact .inr (.inl he)
    · exact .inl rfl
    · obtain ⟨a, role, flowin, ssn, rfl⟩ := he
      simp only [exec, execEndOfHardReset] at h
      split at h
      · cases h; exact .inr (.inl ⟨a, role, flowin, ssn, rfl, ‹_›, rfl⟩)
      · cases h; exact .inl rfl
  · have running : ∀ f : State → State, exec c s = s.event f → t = s ∨ t = f s := by
      intro f hf
      rw [hf] at h
      cases hr : s.inReset with
      | true => rw [State.event_of_reset hr] at h; cases h; exact .inl rfl
      | false => rw [State.event_of_running hr] at h; cases h; exact .inr rfl
    by_cases hhost : (takenRoleStates c).isSome = true
    · rcases running _ (exec_of_host hhost s) with rfl | rfl
      · exact .inl rfl
      · unfold State.portCommand
        split
        · exact .inr (.inr (.inr (.inr (.inr (.inr ⟨_, _, replyOf_obeys c s, rfl⟩)))))
        · exact .inr (.inr (.inr (.inr (.inr (.inl rfl)))))
    · by_cases hb : boundaryRow c
      · obtain ⟨f, hf, hfs⟩ := exec_of_boundaryRow hb s
        rcases running f hf with rfl | rfl
        · exact .inl rfl
        · rcases hfs with e | ⟨e, hout⟩ <;> rw [e]
          · exact .inl rfl
          · exact .inr (.inr (.inr (.inl ⟨hb, rfl, hout⟩)))
      · by_cases hd : completionRow c
        · obtain ⟨f, hf, hfs⟩ := exec_of_completionRow hd s
          rcases running f hf with rfl | rfl
          · exact .inl rfl
          · rcases hfs with e | e <;> rw [e]
            · exact .inl rfl
            · exact .inr (.inr (.inr (.inr (.inl ⟨hd, rfl⟩))))
        · obtain ⟨f, hf, hfs⟩ := exec_of_happening (by simpa using hhost) hc
            (fun a role flowin ssn e => he ⟨a, role, flowin, ssn, e⟩) hu hb hd s
          rcases running f hf with rfl | rfl
          · exact .inl rfl
          · exact .inr (.inr (.inl hfs))

/-! ### What no move changes -/

/-- The straps, the reset, the model's own queue and counter stand. -/
structure State.SameSelf (s t : State) : Prop where
  inReset : t.inReset = s.inReset
  address : t.sc.address = s.sc.address
  role : t.sc.role = s.sc.role
  ties : t.ties = s.ties
  pending : t.pending = s.pending

theorem State.SameSelf.refl (s : State) : s.SameSelf s := ⟨rfl, rfl, rfl, rfl, rfl⟩

theorem State.SameSelf.trans {s t u : State} (h : s.SameSelf t) (k : t.SameSelf u) : s.SameSelf u :=
  ⟨k.inReset.trans h.inReset, k.address.trans h.address, k.role.trans h.role, k.ties.trans h.ties,
    k.pending.trans h.pending⟩

theorem State.Waits.sameSelf {s t : State} (w : s.Waits t) : s.SameSelf t := by
  cases w <;> exact ⟨rfl, rfl, rfl, rfl, rfl⟩

theorem State.Happens.sameSelf {s t : State} (h : s.Happens t) : s.SameSelf t := by
  cases h
  case waits w => exact w.sameSelf
  case measures m =>
    obtain ⟨u, mu, fcu, latches, counters, w, rfl⟩ := m.frame
    exact w.sameSelf.trans ⟨rfl, rfl, rfl, rfl, rfl⟩
  case links l =>
    obtain ⟨u, w, r⟩ := l.frame
    cases r
    exact w.sameSelf.trans ⟨rfl, rfl, rfl, rfl, rfl⟩
  case actuates a =>
    obtain ⟨u, vd, w, rfl⟩ := a.frame
    exact w.sameSelf.trans ⟨rfl, rfl, rfl, rfl, rfl⟩
  case selected => exact ⟨rfl, rfl, rfl, rfl, rfl⟩

theorem State.boundary_sameSelf (s : State) : s.SameSelf s.boundary := by
  unfold State.boundary
  split
  · exact .refl s
  · exact .refl s
  · unfold State.atBoundary
    split <;> constructor <;> simp

theorem State.complete_sameSelf (k : Taken) (s : State) : s.SameSelf (s.complete k) := by
  unfold State.complete
  dsimp only
  split <;> constructor <;> simp

theorem State.completion_sameSelf (s : State) : s.SameSelf s.completion := by
  unfold State.completion
  split
  · exact (State.Waits.pass _).sameSelf.trans (State.complete_sameSelf _ _)
  all_goals exact .refl s

theorem State.listenDrives_sameSelf (s : State) : s.SameSelf s.listenDrives := by
  obtain ⟨mode, count, vd, e⟩ := s.listenDrives_frame
  rw [e]; exact ⟨rfl, rfl, rfl, rfl, rfl⟩

theorem State.leaveNetwork_sameSelf (s : State) : s.SameSelf s.leaveNetwork := by
  unfold State.leaveNetwork State.quietDrives
  dsimp only
  split <;> split <;> constructor <;> simp

theorem State.rejoinNetwork_sameSelf (s : State) : s.SameSelf s.rejoinNetwork := by
  unfold State.rejoinNetwork State.rejoinDrives
  dsimp only
  split
  · constructor <;> simp
  · split <;> constructor <;> simp

theorem State.softRestart_sameSelf (s : State) : s.SameSelf s.softRestart := by
  refine .trans ?_ (State.listenDrives_sameSelf _)
  constructor <;> simp

theorem State.Serves.sameSelf {s t : State} (h : s.Serves t) : s.SameSelf t := by
  cases h
  case stored p x _ _ =>
    obtain ⟨mu, fcu, e⟩ := s.store_frame p x
    rw [e]; exact ⟨rfl, rfl, rfl, rfl, rfl⟩
  case started =>
    refine .trans ?_ (State.listenDrives_sameSelf _)
    exact ⟨rfl, rfl, rfl, rfl, rfl⟩
  case released => constructor <;> simp
  case resumed => constructor <;> simp
  case left => exact s.leaveNetwork_sameSelf
  case rejoined => exact s.rejoinNetwork_sameSelf
  case restarted => exact s.softRestart_sameSelf
  all_goals exact ⟨rfl, rfl, rfl, rfl, rfl⟩

theorem State.Moves.sameSelf {s t : State} (h : s.Moves t) : s.SameSelf t := by
  rcases h.kinds with w | m | l | a | g
  · exact w.sameSelf
  · exact (State.Happens.measures m).sameSelf
  · exact (State.Happens.links l).sameSelf
  · exact (State.Happens.actuates a).sameSelf
  · cases g
    case selected => exact ⟨rfl, rfl, rfl, rfl, rfl⟩
    case deselected => exact ⟨rfl, rfl, rfl, rfl, rfl⟩
    case boundary => exact s.boundary_sameSelf
    case completion => exact s.completion_sameSelf
    case answered hu => exact hu.sameSelf.trans ⟨rfl, rfl, rfl, rfl, rfl⟩

/-- Every command answers a next state. -/
theorem exec_next (c : Instr) (s : State) : ∃ t, exec c s = .next t := by
  by_cases hc : c = .hardReset
  · subst hc; exact ⟨_, rfl⟩
  by_cases he : ∃ a role flowin ssn, c = .endOfHardReset a role flowin ssn
  · obtain ⟨a, role, flowin, ssn, rfl⟩ := he
    exact ⟨_, rfl⟩
  · obtain ⟨f, hf, -⟩ := exec_eq_event hc (fun a role flowin ssn e => he ⟨a, role, flowin, ssn, e⟩) s
    exact ⟨_, hf⟩

/-- Settles O3: a hard reset, its end and every move leave the queue. -/
theorem everyCommandAnswersNext : Obligations.EveryCommandAnswersNext := by
  intro c s
  obtain ⟨t, ht⟩ := exec_next c s
  refine ⟨t, ht, ?_⟩
  rcases exec_cases ht with rfl | ⟨a, role, flowin, ssn, -, rfl⟩ | rfl | ⟨-, hm⟩
  · rfl
  · rfl
  · rfl
  · exact hm.sameSelf.pending

/-! ### The configuration set (R3, R5) -/

/-- What happens of itself leaves the configuration set and the cycle unit's state. -/
theorem State.Happens.engineStands {s t : State} (h : s.Happens t) : s.EngineStands t := by
  have waits : ∀ u, s.Waits u → s.EngineStands u := fun u w => by cases w <;> exact ⟨rfl, rfl, rfl, .rfl⟩
  cases h
  case waits w => exact waits _ w
  case measures m =>
    obtain ⟨u, mu, fcu, latches, counters, w, rfl⟩ := m.frame
    exact (waits u w).trans ⟨rfl, rfl, rfl, .rfl⟩
  case links l =>
    obtain ⟨u, w, r⟩ := l.frame
    cases r with
    | mk lu pt x mute latches counters hx => exact (waits u w).trans ⟨rfl, rfl, rfl, hx.config_iff⟩
  case actuates a =>
    obtain ⟨u, vd, w, rfl⟩ := a.frame
    exact (waits u w).trans ⟨rfl, rfl, rfl, .rfl⟩
  case selected => exact ⟨rfl, rfl, rfl, .rfl⟩

theorem State.boundary_cfg (s : State) : s.boundary.cfg = s.cfg := by
  unfold State.boundary
  split
  · rfl
  · rfl
  · unfold State.atBoundary
    split <;> simp

theorem State.completion_cfg (s : State) : s.completion.cfg = s.cfg := by
  unfold State.completion
  split
  · unfold State.complete
    dsimp only
    split <;> simp
  all_goals rfl

theorem State.listenDrives_cfg (s : State) : s.listenDrives.cfg = s.cfg := by
  obtain ⟨mode, count, vd, e⟩ := s.listenDrives_frame
  rw [e]

theorem State.leaveNetwork_cfg (s : State) : s.leaveNetwork.cfg = s.cfg := by
  unfold State.leaveNetwork State.quietDrives
  dsimp only
  split <;> split <;> simp

theorem State.rejoinNetwork_cfg (s : State) : s.rejoinNetwork.cfg = s.cfg := by
  obtain ⟨mode, count, vd, e⟩ := State.rejoinDrives_frame
    { s.withdraw .notice with sc := { (s.withdraw .notice).sc with state := .listen, listenCount := 2 } }
  rw [State.rejoinNetwork, e]
  simp

theorem State.softRestart_cfg (s : State) : s.softRestart.cfg = s.cfg := by
  unfold State.softRestart
  dsimp only
  rw [State.listenDrives_cfg]
  simp

/-- A running station's configuration set stands through every command but SET_TARGET. -/
theorem State.Obeys.cfg {s t : State} {c : Instr} (h : s.Obeys c t) (hr : s.sc.state.runs) :
    t.cfg = s.cfg ∨ ∃ v, c = .setTarget v ∧ t.cfg = { s.cfg with mTarget := t.cfg.mTarget } := by
  cases h
  case stored hc => exact absurd hc hr
  case started hc => exact absurd hc hr
  case targetSet v => exact .inr ⟨v, rfl, rfl⟩
  case released => exact .inl (by simp)
  case resumed => exact .inl (by simp)
  case left => exact .inl s.leaveNetwork_cfg
  case rejoined => exact .inl s.rejoinNetwork_cfg
  case restarted => exact .inl s.softRestart_cfg
  all_goals exact .inl rfl

/-- Whatever host command it is, a running station's configuration set stands but for m_target. -/
theorem State.Serves.cfg {s t : State} (h : s.Serves t) (hr : s.sc.state.runs) :
    t.cfg = { s.cfg with mTarget := t.cfg.mTarget } := by
  have same : ∀ u : State, u.cfg = s.cfg → u.cfg = { s.cfg with mTarget := u.cfg.mTarget } := fun u hu => by rw [hu]
  cases h
  case stored hc _ => exact absurd hc hr
  case started hc _ => exact absurd hc hr
  case released => exact same _ (by simp)
  case resumed => exact same _ (by simp)
  case left => exact same _ s.leaveNetwork_cfg
  case rejoined => exact same _ s.rejoinNetwork_cfg
  case restarted => exact same _ s.softRestart_cfg
  all_goals rfl

theorem State.Moves.cfg {s t : State} (h : s.Moves t) (hr : s.sc.state.runs) :
    t.cfg = { s.cfg with mTarget := t.cfg.mTarget } := by
  rcases h.engine_cases with k | rfl | rfl | ⟨u, r, hu, rfl⟩
  · rw [k.cfg]
  · rw [s.boundary_cfg]
  · rw [s.completion_cfg]
  · exact (hu.cfg hr :)

/-- Settles O8: no move changes the straps, and none but SET_TARGET the configuration of a running station. -/
theorem strapsAndConfigurationFixed : Obligations.StrapsAndConfigurationFixed := by
  intro c s t h hc
  refine ⟨fun he => ?straps, fun hr => ?config, fun hr hset hu => ?fixed⟩
  case straps =>
    rcases exec_cases_of_ne hc h with ⟨a, role, flowin, ssn, hcc, -, -⟩ | rfl | ⟨-, hm⟩
    · exact absurd hcc (he a role flowin ssn)
    · exact ⟨rfl, rfl⟩
    · exact ⟨hm.sameSelf.address, hm.sameSelf.role⟩
  case config =>
    rcases exec_cases_of_ne hc h with ⟨a, role, flowin, ssn, -, -, rfl⟩ | rfl | ⟨-, hm⟩
    · rfl
    · rfl
    · exact hm.cfg hr
  case fixed =>
    rcases exec_cases_by_command hc hu h with
      rfl | ⟨_, _, _, _, -, -, rfl⟩ | hh | ⟨-, rfl, -⟩ | ⟨-, rfl⟩ | rfl | ⟨u, r, ho, rfl⟩
    · rfl
    · rfl
    · exact hh.engineStands.cfg
    · exact s.boundary_cfg
    · exact s.completion_cfg
    · rfl
    · rcases ho.cfg hr with e | ⟨v, rfl, -⟩
      · exact e
      · exact absurd rfl (hset v)

/-! ### The station state (Table 1.3) -/

/-- The pairs of Table 1.3. -/
def lifeCycleMoves : List (StationState × StationState) :=
  [(.config, .listen), (.listen, .active), (.active, .muted), (.muted, .active), (.listen, .quiet), (.active, .quiet),
    (.muted, .quiet), (.quiet, .listen), (.active, .listen), (.muted, .listen)]

theorem StationState.Mutes.stationMoves {x y : StationState} (h : x.Mutes y) : y = x ∨ (x, y) ∈ lifeCycleMoves := by
  rcases h with rfl | ⟨rfl, rfl⟩
  · exact .inl rfl
  · exact .inr (by simp [lifeCycleMoves])

theorem State.Happens.mutes {s t : State} (h : s.Happens t) : s.sc.state.Mutes t.sc.state := by
  have waits : ∀ u, s.Waits u → u.sc = s.sc := fun u w => by cases w <;> rfl
  cases h
  case waits w => exact .inl (by rw [waits _ w])
  case measures m =>
    obtain ⟨u, mu, fcu, latches, counters, w, rfl⟩ := m.frame
    exact .inl (by rw [waits u w])
  case links l =>
    obtain ⟨u, w, r⟩ := l.frame
    cases r with
    | mk lu pt x mute latches counters hx => exact waits u w ▸ hx
  case actuates a =>
    obtain ⟨u, vd, w, rfl⟩ := a.frame
    exact .inl (by rw [waits u w])
  case selected => exact .inl rfl

theorem State.boundary_sc (s : State) : s.boundary.sc = s.sc := by
  unfold State.boundary
  split
  · rfl
  · rfl
  · unfold State.atBoundary
    split <;> simp

/-- A completion enters ACTIVE from LISTEN and MUTED alone (R11, R13). -/
theorem State.completion_stationMoves (s : State) :
    s.completion.sc.state = s.sc.state ∨ (s.sc.state, s.completion.sc.state) ∈ lifeCycleMoves := by
  have count : ∀ u : State, u.sc.state = s.sc.state →
      u.countStep.sc.state = s.sc.state ∨ (s.sc.state, u.countStep.sc.state) ∈ lifeCycleMoves := by
    intro u hu
    rw [State.countStep_sc, ← hu]
    cases hx : u.sc.state
    case listen =>
      dsimp only
      split
      · exact .inr (by simp [lifeCycleMoves])
      · exact .inl hx
    case muted =>
      dsimp only
      split
      · exact .inr (by simp [lifeCycleMoves])
      · exact .inl hx
    all_goals exact .inl hx
  unfold State.completion
  split
  · unfold State.complete
    dsimp only
    rw [State.openTable_sc]
    split <;> exact count _ (by simp)
  all_goals exact .inl rfl

theorem State.listenDrives_sc (s : State) : s.listenDrives.sc = s.sc := by
  obtain ⟨mode, count, vd, e⟩ := s.listenDrives_frame
  rw [e]

theorem State.Serves.stationMoves {s t : State} (h : s.Serves t) :
    t.sc.state = s.sc.state ∨ (s.sc.state, t.sc.state) ∈ lifeCycleMoves := by
  cases h
  case stored p x _ _ =>
    obtain ⟨mu, fcu, e⟩ := s.store_frame p x
    rw [e]; exact .inl rfl
  case started hc _ =>
    rw [State.startStation, State.listenDrives_sc, hc]
    exact .inr (by simp [lifeCycleMoves])
  case released => exact .inl (by simp)
  case resumed => exact .inl (by simp)
  case left hx =>
    have hq : s.leaveNetwork.sc.state = .quiet := by
      unfold State.leaveNetwork State.quietDrives
      dsimp only
      split <;> rfl
    rw [hq]
    simp only [List.mem_cons, List.not_mem_nil, or_false] at hx
    rcases hx with h | h | h <;> rw [h] <;> exact .inr (by simp [lifeCycleMoves])
  case rejoined hq =>
    have hl : s.rejoinNetwork.sc.state = .listen := by
      obtain ⟨mode, count, vd, e⟩ := State.rejoinDrives_frame
        { s.withdraw .notice with sc := { (s.withdraw .notice).sc with state := .listen, listenCount := 2 } }
      rw [State.rejoinNetwork, e]
    rw [hl, hq]
    exact .inr (by simp [lifeCycleMoves])
  case restarted hr =>
    have hl : s.softRestart.sc.state = .listen := by
      unfold State.softRestart
      dsimp only
      rw [State.listenDrives_sc]
    rw [hl]
    cases hx : s.sc.state
    case config => exact absurd hx hr
    case listen => exact .inl rfl
    all_goals exact .inr (by simp [lifeCycleMoves])
  all_goals exact .inl rfl

/-- Every move leaves the station state or follows Table 1.3. -/
theorem State.Moves.stationMoves {s t : State} (h : s.Moves t) :
    t.sc.state = s.sc.state ∨ (s.sc.state, t.sc.state) ∈ lifeCycleMoves := by
  rcases h.kinds with w | m | l | a | g
  · exact (State.Happens.waits w).mutes.stationMoves
  · exact (State.Happens.measures m).mutes.stationMoves
  · exact (State.Happens.links l).mutes.stationMoves
  · exact (State.Happens.actuates a).mutes.stationMoves
  · cases g
    case selected => exact .inl rfl
    case deselected => exact .inl rfl
    case boundary => exact .inl (by rw [s.boundary_sc])
    case completion => exact s.completion_stationMoves
    case answered hu => exact (hu.stationMoves :)

/-! ### The cycle unit state (R87) -/

/-- What a boundary does to the cycle unit's state; deferred in HELD, it leaves the table (Table 5.2). -/
theorem State.boundary_cycle (s : State) :
    s.boundary.cu.state = s.cu.state ∨
    (s.cu.state = .opened ∧ ∃ k, s.boundary.cu.state = .calc k) ∨
    (s.cu.state = .held ∧ s.boundary.cu.state = .heldPending ∧ s.boundary.pt = s.pt) ∨
    (s.cu.state = .heldPending ∧ ∃ k, s.boundary.cu.state = .calc k) := by
  unfold State.boundary
  split
  · exact .inl rfl
  · exact .inl rfl
  · unfold State.atBoundary
    split
    · next h => exact .inr (.inl ⟨by simpa using h, _, by rw [State.startComputation_cu]⟩)
    · exact .inl rfl
    · next h => exact .inr (.inr (.inl ⟨by simpa using h, rfl, rfl⟩))
    · next h => exact .inr (.inr (.inr ⟨by simpa using h, _, by rw [State.startComputation_cu]⟩))

/-- A completion opens the table at the end of a computation, and is nothing elsewhere. -/
theorem State.completion_cycle (s : State) :
    s.completion.cu.state = s.cu.state ∨ (∃ k, s.cu.state = .calc k) ∧ s.completion.cu.state = .opened := by
  unfold State.completion
  split
  · next k hk => exact .inr ⟨⟨k, hk⟩, State.openTable_cu_state _⟩
  all_goals exact .inl rfl

theorem State.listenDrives_cu (s : State) : s.listenDrives.cu = s.cu := by
  obtain ⟨mode, count, vd, e⟩ := s.listenDrives_frame
  rw [e]

/-- HOLD, RELEASE and RESTART alone of the host commands move the cycle unit's state. -/
theorem State.Obeys.cycle {s t : State} {c : Instr} (h : s.Obeys c t) :
    t.cu.state = s.cu.state ∨
    (s.cu.state = .opened ∧ t.cu.state = .held ∧ c = .hold) ∨
    (s.cu.state = .held ∧ t.cu.state = .opened ∧ c = .release) ∨
    (s.cu.state = .heldPending ∧ (∃ k, t.cu.state = .calc k) ∧ c = .release) ∨
    (t.cu.state = .opened ∧ c = .restart) := by
  cases h
  case stored id v p x _ =>
    obtain ⟨mu, fcu, e⟩ := s.store_frame p x
    rw [e]; exact .inl rfl
  case started => exact .inl (by rw [State.startStation, State.listenDrives_cu])
  case held h => exact .inr (.inl ⟨h, rfl, rfl⟩)
  case released h => exact .inr (.inr (.inl ⟨h, State.openTable_cu_state s, rfl⟩))
  case resumed h => exact .inr (.inr (.inr (.inl ⟨h, ⟨_, by rw [State.startComputation_cu]⟩, rfl⟩)))
  case left =>
    left
    unfold State.leaveNetwork State.quietDrives
    dsimp only
    split <;> split <;> simp
  case rejoined =>
    left
    obtain ⟨mode, count, vd, e⟩ := State.rejoinDrives_frame
      { s.withdraw .notice with sc := { (s.withdraw .notice).sc with state := .listen, listenCount := 2 } }
    rw [State.rejoinNetwork, e]
    simp
  case restarted =>
    refine .inr (.inr (.inr (.inr ⟨?_, rfl⟩)))
    unfold State.softRestart
    dsimp only
    rw [State.listenDrives_cu]
  all_goals exact .inl rfl

/-- Settles O9: each kind of event moves the two states along R87 and Table 1.3, or leaves them. -/
theorem stationStateMoves : Obligations.StationStateMoves := by
  intro c s t h hc
  refine ⟨fun hu => ?cycle, ?station⟩
  case station =>
    rcases exec_cases_of_ne hc h with ⟨_, _, _, _, -, -, rfl⟩ | rfl | ⟨-, hm⟩
    · exact .inl rfl
    · exact .inl rfl
    · exact hm.stationMoves
  case cycle =>
    rcases exec_cases_by_command hc hu h with
      rfl | ⟨_, _, _, _, -, -, rfl⟩ | hh | ⟨hrow, rfl, hout⟩ | ⟨hrow, rfl⟩ | rfl | ⟨u, r, ho, rfl⟩
    · exact .inl rfl
    · exact .inl rfl
    · exact .inl hh.engineStands.cycle
    · rcases s.boundary_cycle with e | ⟨h0, h1⟩ | ⟨h0, h1, hpt⟩ | ⟨h0, h1⟩
      · exact .inl e
      · exact .inr (.inl ⟨h0, h1, hrow⟩)
      · exact .inr (.inr (.inl ⟨h0, h1, hout.resolve_right (absurd hpt)⟩))
      · exact .inr (.inr (.inr (.inl ⟨h0, h1, .inl hrow⟩)))
    · rcases s.completion_cycle with e | ⟨h0, h1⟩
      · exact .inl e
      · exact .inr (.inr (.inr (.inr (.inl ⟨h0, h1, .inl hrow⟩))))
    · exact .inl rfl
    · simp only [State.answer_cu, State.deselect_cu]
      rcases ho.cycle with e | ⟨h0, h1, hcc⟩ | ⟨h0, h1, hcc⟩ | ⟨h0, h1, hcc⟩ | ⟨h1, hcc⟩
      · exact .inl e
      · exact .inr (.inr (.inr (.inr (.inr (.inl ⟨h0, h1, hcc⟩)))))
      · exact .inr (.inr (.inr (.inr (.inr (.inr (.inl ⟨h0, h1, .inl hcc⟩))))))
      · exact .inr (.inr (.inr (.inl ⟨h0, h1, .inr hcc⟩)))
      · rcases h0 : s.cu.state with _ | k | _ | _
        · exact .inl h1
        · exact .inr (.inr (.inr (.inr (.inl ⟨⟨k, rfl⟩, h1, .inr hcc⟩))))
        · exact .inr (.inr (.inr (.inr (.inr (.inr (.inl ⟨rfl, h1, .inr hcc⟩))))))
        · exact .inr (.inr (.inr (.inr (.inr (.inr (.inr ⟨rfl, h1, hcc⟩))))))

end Sys2Proof.Machine
end

section
/-! Latches stay set and counters do not fall, but by ACK_LATCHES, READ_COUNTERS and a hard reset (R173, R176). -/

namespace Sys2Proof.Machine

/-- From one state to the next every set latch stays set, and counters within their range stay so and do not fall. -/
structure State.Accumulates (s t : State) : Prop where
  latches : ∀ l, s.latched l = true → t.latched l = true
  counters : s.counterLaw → t.counterLaw ∧ ∀ k, s.count k ≤ t.count k

/-- The law of the counters, counter by counter (R176). -/
theorem State.counterLaw_iff {s : State} : s.counterLaw ↔ ∀ k, s.count k ≤ 65535 := by
  simp only [State.counterLaw, Counters.toList, State.count, List.forall_mem_cons, List.not_mem_nil, IsEmpty.forall_iff,
    implies_true, and_true]
  constructor
  · rintro ⟨h1, h2, h3, h4, h5, h6, h7, h8, h9, h10, h11, h12, h13⟩ k
    cases k <;> assumption
  · intro h
    exact ⟨h .framesAccepted, h .crcErrors, h .fragments, h .formatErrors, h .collisions, h .abandoned, h .superseded,
      h .duplicates, h .seqRejects, h .overruns, h .conflicts, h .flowNoise, h .starvedCycles⟩

theorem State.Accumulates.of_sp {s t : State} (hl : t.sp.latches = s.sp.latches := by rfl)
    (hc : t.sp.counters = s.sp.counters := by rfl) : s.Accumulates t where
  latches l h := by rw [State.latched_congr hl]; exact h
  counters h := ⟨by rw [State.counterLaw, hc]; exact h, fun k => (State.count_congr hc k).ge⟩

theorem State.Accumulates.refl (s : State) : s.Accumulates s := .of_sp

theorem State.Accumulates.trans {s t u : State} (h : s.Accumulates t) (k : t.Accumulates u) : s.Accumulates u where
  latches l hl := k.latches l (h.latches l hl)
  counters hs :=
    have ⟨ht, hst⟩ := h.counters hs
    have ⟨hu, htu⟩ := k.counters ht
    ⟨hu, fun c => (hst c).trans (htu c)⟩

theorem State.Accumulates.nextCharacter {s t : State} (h : s.Accumulates t) {own : Bool} :
    s.Accumulates (t.nextCharacter own) := h.trans .of_sp

/-! ### The steps -/

theorem State.setLatchIf_accumulates (b : Bool) (l : Latch) (s : State) : s.Accumulates (s.setLatchIf b l) where
  latches m h := by simp [h]
  counters h := ⟨by simpa [State.counterLaw] using h, fun k => by simp⟩

theorem State.setLatch_accumulates (l : Latch) (s : State) : s.Accumulates (s.setLatch l) :=
  s.setLatchIf_accumulates true l

/-- A counter that steps saturates at 65535 (R176). -/
theorem State.bumpIf_accumulates (b : Bool) (c : Counter) (s : State) : s.Accumulates (s.bumpIf b c) where
  latches m h := by simpa using h
  counters h := by
    have low := State.counterLaw_iff.mp h
    have step : ∀ k, s.count k ≤ (s.bumpIf b c).count k ∧ (s.bumpIf b c).count k ≤ 65535 := by
      intro k
      have := low k
      rw [State.count_bumpIf]
      split
      · unfold satCount; omega
      · exact ⟨le_rfl, this⟩
    exact ⟨State.counterLaw_iff.mpr fun k => (step k).2, fun k => (step k).1⟩

theorem State.bump_accumulates (c : Counter) (s : State) : s.Accumulates (s.bump c) := s.bumpIf_accumulates true c

theorem State.Accumulates.setLatchIf {s t : State} (h : s.Accumulates t) {b : Bool} {l : Latch} :
    s.Accumulates (t.setLatchIf b l) := h.trans (t.setLatchIf_accumulates b l)

theorem State.Accumulates.setLatch {s t : State} (h : s.Accumulates t) {l : Latch} : s.Accumulates (t.setLatch l) :=
  h.trans (t.setLatch_accumulates l)

theorem State.Accumulates.bumpIf {s t : State} (h : s.Accumulates t) {b : Bool} {c : Counter} :
    s.Accumulates (t.bumpIf b c) := h.trans (t.bumpIf_accumulates b c)

theorem State.Accumulates.bump {s t : State} (h : s.Accumulates t) {c : Counter} : s.Accumulates (t.bump c) := h.trans (t.bump_accumulates c)

/-- What leaves latches and counters as they are keeps what has accumulated. -/
theorem State.Accumulates.congr {s t u : State} (h : s.Accumulates t) (hl : u.sp.latches = t.sp.latches := by rfl)
    (hc : u.sp.counters = t.sp.counters := by rfl) : s.Accumulates u := h.trans (.of_sp hl hc)

theorem State.applyFrame_accumulates (f : Frame) (s : State) : s.Accumulates (s.applyFrame f) := by
  obtain ⟨after, changed, duplicate, rejected, h⟩ := State.applyFrame_shape s.pt.entries f
  rw [h s rfl]
  have entered : s.Accumulates { s with pt.entries := after } := .of_sp
  exact entered.setLatchIf.bumpIf.bumpIf

theorem State.openTable_accumulates (s : State) : s.Accumulates s.openTable := by
  have run : ∀ (q : List Frame) (u : State), u.Accumulates (q.foldl State.applyFrame u) := by
    intro q
    induction q with
    | nil => exact .refl
    | cons f q ih => exact fun u => (u.applyFrame_accumulates f).trans (ih _)
  rw [State.openTable_eq]
  exact (run s.pt.queue s).trans .of_sp

theorem State.route_accumulates (f : Frame) (s : State) : s.Accumulates (s.route f) := by
  unfold State.route
  split
  · exact s.applyFrame_accumulates f
  · rcases State.offer_cases f s with h | ⟨h, -⟩ | h <;> rw [h]
    · exact .of_sp
    · exact .of_sp
    · exact (s.bump_accumulates _).trans (State.setLatch_accumulates _ _)

theorem State.withdraw_accumulates (x : Slot) (s : State) : s.Accumulates (s.withdraw x) := by
  unfold State.withdraw
  dsimp only
  exact .bumpIf (.bumpIf .of_sp)

theorem State.conflict_accumulates (s : State) : s.Accumulates s.conflict := by
  refine ((s.bump_accumulates .conflicts).trans (State.setLatch_accumulates .addressConflict _)).trans ?_
  unfold State.conflict
  dsimp only
  split
  · exact (State.withdraw_accumulates .report _).trans .of_sp
  all_goals exact .of_sp

theorem State.finishFrame_accumulates (own : Bool) (cs : List Byte) (s : State) : s.Accumulates (s.finishFrame own cs) := by
  unfold State.finishFrame
  dsimp only
  split
  · exact .of_sp
  · refine .trans (t := { s with lu.receiver := .hunt }) .of_sp ?_
    split
    · exact State.bump_accumulates _ _
    · exact State.bump_accumulates _ _
    · refine (State.bump_accumulates .framesAccepted _).trans ?_
      unfold State.arrive
      split
      · exact State.conflict_accumulates _
      · exact State.route_accumulates _ _

theorem State.dropFrame_accumulates (own : Bool) (s : State) : s.Accumulates (s.dropFrame own) :=
  .bumpIf .of_sp

theorem State.receive_accumulates (c : Byte) (s : State) : s.Accumulates (s.receive c) := by
  unfold State.receive
  split
  · exact .refl s
  · exact .refl s
  · split <;> exact .of_sp
  · split
    · exact s.dropFrame_accumulates _
    · split
      · exact s.finishFrame_accumulates _ _
      · exact .of_sp

theorem State.character_accumulates (c : Byte) (s : State) : s.Accumulates (s.character c) :=
  (Accumulates.trans .of_sp (State.receive_accumulates c { s with lu := s.lu.dominant (tailClocks c) })).congr

theorem State.framingFault_accumulates (s : State) : s.Accumulates s.framingFault := by
  unfold State.framingFault
  refine .nextCharacter (.trans (t := { s with lu := s.lu.dominant 0 }) .of_sp ?_)
  dsimp only
  split
  · exact .refl _
  · exact .refl _
  · exact .of_sp
  · exact State.dropFrame_accumulates _ _

theorem State.idleLine_accumulates (s : State) : s.Accumulates s.idleLine := by
  unfold State.idleLine
  dsimp only
  split
  · exact .of_sp
  · exact .of_sp
  · exact .of_sp
  · exact .bumpIf .of_sp

theorem State.collision_accumulates (s : State) : s.Accumulates s.collision := by
  cases hx : s.lu.transmitter with
  | sending o t =>
    rcases State.collision_cases hx with ⟨-, e⟩ | ⟨-, -, e⟩ | ⟨-, -, e⟩ <;> rw [e]
    · exact (s.bump_accumulates .collisions).trans (.trans .of_sp (State.bump_accumulates .superseded _))
    · exact (s.bump_accumulates .collisions).trans .of_sp
    · refine (s.bump_accumulates .collisions).trans (.trans ?_ (State.setLatch_accumulates .txAbandoned _))
      exact .trans .of_sp (State.bump_accumulates .abandoned _)
  | _ => rw [State.collision_idle (by simp [hx, Transmitter.isSending])]; exact .refl s

theorem State.Happens.accumulates {s t : State} (h : s.Happens t) : s.Accumulates t := by
  cases h
  case waits w => cases w <;> exact .of_sp
  case measures m =>
    cases m
    case conversion code => exact .trans .of_sp (State.setLatchIf_accumulates _ _ _)
    case flowCapture v =>
      rcases s.flowCapture_cases v with h | ⟨d, late, f, noise, h⟩ <;> rw [h]
      · exact .refl s
      · exact .trans (.of_sp (by simp) (by simp)) (State.bumpIf_accumulates _ _ _)
    case flowinLow => exact .of_sp
    case flowTimeout =>
      rcases s.flowTimeout_cases with h | ⟨d, f, h⟩ <;> rw [h]
      · exact .refl s
      · exact .of_sp
  case links l =>
    cases l
    case dominant => exact .of_sp
    case character c => exact s.character_accumulates c
    case framingFault => exact s.framingFault_accumulates
    case idleLine => exact s.idleLine_accumulates
    case accessGap =>
      rcases s.accessGap_cases with h | ⟨slot, k, gap, o, -, -, h⟩ <;> rw [h]
      · exact .refl s
      · exact .of_sp
    case collision => exact s.collision_accumulates
    case frameSent =>
      rcases s.frameSent_cases with h | ⟨o, t, d, -, -, h⟩ <;> rw [h]
      · exact .refl s
      · exact .of_sp
  case actuates a =>
    obtain ⟨u, vd, w, rfl⟩ := a.frame
    cases w <;> exact .of_sp
  case selected => exact .of_sp

/-! ### The cycle and the port -/

theorem State.agingPass_accumulates (s : State) : s.Accumulates s.agingPass where
  latches l h := by rw [State.agingPass_latched, h, Bool.true_or, Bool.true_or]
  counters h := ⟨by simpa [State.counterLaw] using h, fun k => (State.count_congr (by simp) k).ge⟩

theorem State.startComputation_accumulates (s : State) : s.Accumulates s.startComputation := .of_sp (by simp) (by simp)

theorem State.boundary_accumulates (s : State) : s.Accumulates s.boundary := by
  unfold State.boundary
  split
  · exact .refl s
  · exact .refl s
  · next τ _ _ =>
    refine .trans (t := s.pass (s.cfg.cyclePeriod * msClocks - τ)) .of_sp ?_
    unfold State.atBoundary
    split
    · exact (State.agingPass_accumulates _).trans (State.startComputation_accumulates _)
    · exact .refl _
    · exact .of_sp
    · exact (State.setLatch_accumulates .holdOverrun _).trans ((State.agingPass_accumulates _).trans
        ((State.agingPass_accumulates _).trans (State.startComputation_accumulates _)))

theorem State.commitStarved_accumulates (b : Bool) (s : State) : s.Accumulates (s.commitStarved b) := by
  unfold State.commitStarved
  dsimp only
  exact (State.bumpIf_accumulates _ _ _).trans (.trans (State.setLatchIf_accumulates _ _ _) .of_sp)

theorem State.placeReport_accumulates (r : Report) (s : State) : s.Accumulates (s.placeReport r) := by
  unfold State.placeReport
  dsimp only
  exact .trans .of_sp (State.bumpIf_accumulates _ _ _)

theorem State.reportStep_accumulates (r : Report) (s : State) : s.Accumulates (s.reportStep r) := by
  unfold State.reportStep
  dsimp only
  split
  · exact .trans .of_sp (State.placeReport_accumulates _ _)
  all_goals exact .of_sp

theorem State.complete_accumulates (k : Taken) (s : State) : s.Accumulates (s.complete k) := by
  have commit : s.Accumulates (match s.sc.role with
      | .plant => (s.commitStarved (figures s.sc s.cfg k s.pt.entries).starved).commitPlant k
          (figures s.sc s.cfg k s.pt.entries)
      | .customer => (s.commitStarved (figures s.sc s.cfg k s.pt.entries).starved).commitCustomer k
          (figures s.sc s.cfg k s.pt.entries)) := by
    refine (s.commitStarved_accumulates (figures s.sc s.cfg k s.pt.entries).starved).trans ?_
    split
    · exact .trans .of_sp (State.reportStep_accumulates _ _)
    · exact .trans .of_sp (State.reportStep_accumulates _ _)
  have counted := commit.congr (congrArg _ (State.countStep_sp _)) (congrArg _ (State.countStep_sp _))
  have opened := counted.trans (State.openTable_accumulates _)
  unfold State.complete
  dsimp only
  rw [State.commitStarved_sc]
  exact opened

theorem State.completion_accumulates (s : State) : s.Accumulates s.completion := by
  unfold State.completion
  split
  · exact .trans (t := s.pass (s.computationClocks - s.cu.timer.getD 0)) .of_sp (State.complete_accumulates _ _)
  all_goals exact .refl s

/-- ACK_LATCHES and READ_COUNTERS alone of the host commands take anything back. -/
theorem State.Obeys.accumulates {s t : State} {c : Instr} (h : s.Obeys c t) :
    s.Accumulates t ∨ (∃ o, c = .readCounters o ∧ t = { s with sp.counters := Counters.zero }) ∨
      ∃ m, c = .ackLatches m ∧ t.sp.counters = s.sp.counters := by
  cases h
  case countersCleared o => exact .inr (.inl ⟨o, rfl, rfl⟩)
  case latchesCleared m => exact .inr (.inr ⟨m, rfl, rfl⟩)
  all_goals left
  case stored id v p x _ =>
    obtain ⟨mu, fcu, e⟩ := s.store_frame p x
    rw [e]; exact .of_sp
  case started =>
    unfold State.startStation
    obtain ⟨mode, count, vd, e⟩ := State.listenDrives_frame { s with
      sc.state := .listen, sc.listenCount := 2, lu := s.lu.turnOn, cu.timer := some 0 }
    rw [e]; exact .of_sp
  case released => exact s.openTable_accumulates
  case resumed => exact s.agingPass_accumulates.trans (State.startComputation_accumulates _)
  case left =>
    refine (s.withdraw_accumulates .report).trans ?_
    unfold State.leaveNetwork State.quietDrives
    dsimp only
    split <;> split <;> exact .of_sp (by simp) (by simp)
  case rejoined =>
    refine (s.withdraw_accumulates .notice).trans ?_
    obtain ⟨mode, count, vd, e⟩ := State.rejoinDrives_frame
      { s.withdraw .notice with sc := { (s.withdraw .notice).sc with state := .listen, listenCount := 2 } }
    rw [State.rejoinNetwork, e]
    exact .of_sp
  case restarted =>
    refine (s.withdraw_accumulates .report).trans ((State.withdraw_accumulates .notice _).trans ?_)
    unfold State.softRestart State.listenDrives
    dsimp only
    split <;> exact .of_sp
  all_goals exact .of_sp

/-- Settles O10: everything but ACK_LATCHES and READ_COUNTERS accumulates, and each of these leaves what the other takes. -/
theorem latchesAndCountersStand : Obligations.LatchesAndCountersStand := by
  intro c s t h hc hu
  suffices s.Accumulates t ∨ (∃ o, c = .readCounters o ∧ t.sp.latches = s.sp.latches ∧ t.counterLaw) ∨
      ∃ m, c = .ackLatches m ∧ t.sp.counters = s.sp.counters by
    rcases this with a | ⟨o, rfl, hl, hz⟩ | ⟨m, rfl, hk⟩
    · exact ⟨fun _ => a.latches, fun hs => ⟨(a.counters hs).1, fun _ => (a.counters hs).2⟩⟩
    · exact ⟨fun _ l hsl => by rw [State.latched_congr hl]; exact hsl, fun _ => ⟨hz, fun hne => absurd rfl (hne o)⟩⟩
    · exact ⟨fun hne => absurd rfl (hne m),
        fun hs => ⟨by rw [State.counterLaw, hk]; exact hs, fun _ k => (State.count_congr hk k).ge⟩⟩
  rcases exec_cases_by_command hc hu h with
    rfl | ⟨_, _, _, _, -, -, rfl⟩ | hh | ⟨-, rfl, -⟩ | ⟨-, rfl⟩ | rfl | ⟨u, r, ho, rfl⟩
  · exact .inl (.refl _)
  · exact .inl .of_sp
  · exact .inl hh.accumulates
  · exact .inl s.boundary_accumulates
  · exact .inl s.completion_accumulates
  · exact .inl .of_sp
  · rcases ho.accumulates with a | ⟨o, rfl, rfl⟩ | ⟨m, rfl, hk⟩
    · exact .inl (a.trans .of_sp)
    · exact .inr (.inl ⟨o, rfl, rfl, by simp [State.counterLaw, Counters.toList, Counters.zero]⟩)
    · exact .inr (.inr ⟨m, rfl, hk⟩)

end Sys2Proof.Machine
end

section
/-! The bytes of the port and the characters of the link: what is sent reads back (chapters 3 and 10, section 11.1). -/

namespace Sys2Proof.Machine

/-! ### Bytes -/

theorem byteSum_append_neg (head : List Byte) : byteSum (head ++ [-byteSum head]) = 0 := by
  simp [byteSum, List.foldl_append]

/-- Bytes add up modulo 256. -/
theorem byteSum_toNat (bs : List Byte) : (byteSum bs).toNat = (bs.map BitVec.toNat).sum % 256 := by
  have add : ∀ (bs : List Byte) (a : Byte),
      (bs.foldl (· + ·) a).toNat = (a.toNat + (bs.map BitVec.toNat).sum) % 256 := by
    intro bs
    induction bs with
    | nil => intro a; have := a.isLt; simp; omega
    | cons b bs ih => intro a; simp [ih]; omega
  rw [byteSum, add]
  simp

/-- A byte is the flags byte of its bits. -/
theorem flagByte_bits (b : Byte) : flagByte [b.getLsbD 0, b.getLsbD 1, b.getLsbD 2, b.getLsbD 3, b.getLsbD 4,
    b.getLsbD 5, b.getLsbD 6, b.getLsbD 7] = b := by
  refine BitVec.eq_of_getLsbD_eq fun k hk => ?_
  rw [flagByte_getLsbD _ (by simp) k hk]
  interval_cases k <;> rfl

/-- The two bytes of a word, put together again. -/
theorem word_of_bytes (v : Word16) : (v.extractLsb' 8 8 ++ v.extractLsb' 0 8 : BitVec (8 + 8)) = v := by
  refine BitVec.eq_of_getLsbD_eq fun k hk => ?_
  rw [BitVec.getLsbD_append]
  by_cases h : k < 8
  · simp [h]
  · have : k - 8 < 8 := by omega
    simp [h, this, Nat.add_sub_cancel' (Nat.le_of_not_lt h)]

/-! ### The messages of the host (R167, R168, R180) -/

/-- The rows that have a message are the host commands of Table 11.6. -/
theorem encodeCommand_isSome (c : Instr) : (encodeCommand c).isSome = (takenRoleStates c).isSome := by
  cases c <;> rfl

/-- A message that sums to 0 and holds as many parameter bytes as it counts passes the first test of R168. -/
theorem portEvent_message (code : Byte) {params : List Byte} (h : params.length < 256) (filler : List Byte) :
    portEvent ((code :: byte params.length :: params ++ [-byteSum (code :: byte params.length :: params)]) ++ filler) =
      commandOf code params := by
  have count : (byte params.length).toNat = params.length := by simp [byte]; omega
  have sum := byteSum_append_neg (code :: byte params.length :: params)
  generalize -byteSum (code :: byte params.length :: params) = check at sum ⊢
  have body : ((params ++ [check]) ++ filler).take ((byte params.length).toNat + 1) = params ++ [check] :=
    List.take_left' (by simp [count])
  change portEvent (code :: byte params.length :: ((params ++ [check]) ++ filler)) = _
  rw [portEvent, body]
  simp only [List.cons_append] at sum
  simp [count, sum]

/-- The code and parameter bytes of a host command spell it (Table 11.6). -/
theorem commandOf_commandBytes {c : Instr} {code : Byte} {params : List Byte} (h : commandBytes c = some (code, params)) :
    commandOf code params = .command c ∧ params.length < 256 := by
  cases c <;> simp [commandBytes] at h
  all_goals
    obtain ⟨rfl, rfl⟩ := h
    simp [commandOf, word_of_bytes]

/-- A host command's message, whatever filler follows, is that command. -/
theorem portEvent_of_encoded {c : Instr} {m : List Byte} (h : encodeCommand c = some m) (filler : List Byte) :
    portEvent (m ++ filler) = .command c ∧ byteSum m = 0 := by
  simp only [encodeCommand, Option.map_eq_some_iff] at h
  obtain ⟨⟨code, params⟩, hc, rfl⟩ := h
  obtain ⟨spelled, short⟩ := commandOf_commandBytes hc
  exact ⟨(portEvent_message code short filler).trans spelled, byteSum_append_neg _⟩

/-- Settles O21: code, count, parameters and check byte are written as they are read. -/
theorem portMessagesRoundTrip : Obligations.PortMessagesRoundTrip := by
  refine ⟨?_, byteSum_toNat, fun c h => encodeCommand_isSome c ▸ h, fun _ _ filler h => portEvent_of_encoded h filler⟩
  rintro id a o m x v hi lo rfl rfl
  simp only [List.forall_mem_cons]
  exact ⟨⟨_, rfl⟩, ⟨_, rfl⟩, ⟨_, rfl⟩, ⟨_, rfl⟩, ⟨_, rfl⟩, ⟨_, rfl⟩, ⟨_, rfl⟩, ⟨_, rfl⟩, ⟨_, rfl⟩, ⟨_, rfl⟩, ⟨_, rfl⟩,
    ⟨_, rfl⟩, ⟨_, rfl⟩, ⟨_, rfl⟩, ⟨_, rfl⟩, ⟨_, rfl⟩, ⟨_, rfl⟩, by simp⟩

/-- Fewer than eight clocks make no byte. -/
theorem assembleBytes_of_short : ∀ {bits : List Bool}, bits.length < 8 → assembleBytes bits = []
  | [], _ | [_], _ | [_, _], _ | [_, _, _], _ | [_, _, _, _], _ | [_, _, _, _, _], _ | [_, _, _, _, _, _], _
  | [_, _, _, _, _, _, _], _ => rfl
  | _ :: _ :: _ :: _ :: _ :: _ :: _ :: _ :: _, h => by simp at h; omega

/-- Bytes that are shifted in bit by bit are assembled again (R167). -/
theorem assembleBytes_bitsOf (bs : List Byte) {tail : List Bool} (h : tail.length < 8) :
    assembleBytes (bitsOf bs ++ tail) = bs := by
  induction bs with
  | nil => exact assembleBytes_of_short h
  | cons b bs ih =>
    have : bitsOf (b :: bs) ++ tail = msbFirst b ++ (bitsOf bs ++ tail) := by simp [bitsOf]
    rw [this]
    simp only [msbFirst, List.cons_append, List.nil_append, assembleBytes, ih, flagByte_bits]

/-- The end of a select period that shifted in complete bytes (R167, assumption log 9). -/
theorem exec_unknownCommand {s : State} (h : s.sp.select = some []) (bits : List Bool) :
    exec (.unknownCommand bits) s = s.event fun s => s.periodEnd (assembleBytes bits) := by
  change s.event _ = s.event _
  simp [State.event, h]

/-- Settles O22: the bits assemble to the message, and the message is the command. -/
theorem shiftedBitsAreTheCommand : Obligations.ShiftedBitsAreTheCommand := by
  refine ⟨fun _ => rfl, fun bs _ h => assembleBytes_bitsOf bs h, fun c m filler tail s hm ht hs => ?_⟩
  have host : (takenRoleStates c).isSome = true := by rw [← encodeCommand_isSome, hm]; rfl
  rw [exec_unknownCommand hs, exec_of_host host, assembleBytes_bitsOf _ ht]
  unfold State.periodEnd
  rw [(portEvent_of_encoded hm filler).1]

/-! ### The first tests of a command (R168) -/

theorem State.selected.event_periodEnd {s : State} (hs : s.selected) (bytes : List Byte) :
    s.event (State.periodEnd bytes) = .next (s.periodEnd bytes) := State.event_of_running hs.1 _

/-- A command refused by one of the first three tests has no effect (R170). -/
theorem State.selected.periodEnd_of_refused {s : State} (hs : s.selected) {bytes : List Byte} {st : Status}
    (h : portEvent bytes = .refuse st) : s.periodEnd bytes = s.answered st [] := by
  simp only [State.periodEnd, h]
  rw [State.portCommand_of_selected hs.2, State.taking_of_turnedAway rfl]

/-- What a message of at least two bytes is. -/
theorem portEvent_cons_cons (code n : Byte) (rest : List Byte) : portEvent (code :: n :: rest) =
    if rest.length < n.toNat + 1 then .refuse .format
    else if byteSum (code :: n :: rest.take (n.toNat + 1)) ≠ 0 then .refuse .format
    else commandOf code (rest.take n.toNat) := by
  by_cases h : rest.length < n.toNat + 1
  · rw [if_pos h, portEvent]
    exact if_pos (by rw [List.length_take]; omega)
  · have hm : min (n.toNat + 1) rest.length = n.toNat + 1 := by omega
    simp [portEvent, h, hm, List.take_take]

/-- A code of no command is refused with UNKNOWN (R168). -/
theorem commandOf_of_not_mem {code : Byte} (h : code ∉ commandCodes.map Prod.fst) (params : List Byte) :
    commandOf code params = .refuse .unknown := by
  simp only [commandCodes, List.map_cons, List.map_nil, List.mem_cons, not_or] at h
  obtain ⟨h1, h2, h3, h4, h5, h6, h7, h8, h9, h10, h11, h12, h13, h14, h15, h16, h17, -⟩ := h
  simp only [commandOf, h1, h2, h3, h4, h5, h6, h7, h8, h9, h10, h11, h12, h13, h14, h15, h16, h17, if_false]

/-- A count of parameters that is not its code's is refused with FORMAT (R168). -/
theorem commandOf_of_wrong_count {code : Byte} {count : Nat} (h : (code, count) ∈ commandCodes) {params : List Byte}
    (hn : params.length ≠ count) : commandOf code params = .refuse .format := by
  simp only [commandCodes, List.mem_cons, List.not_mem_nil, or_false, Prod.mk.injEq] at h
  rcases h with ⟨rfl, rfl⟩ | ⟨rfl, rfl⟩ | ⟨rfl, rfl⟩ | ⟨rfl, rfl⟩ | ⟨rfl, rfl⟩ | ⟨rfl, rfl⟩ | ⟨rfl, rfl⟩ | ⟨rfl, rfl⟩ |
    ⟨rfl, rfl⟩ | ⟨rfl, rfl⟩ | ⟨rfl, rfl⟩ | ⟨rfl, rfl⟩ | ⟨rfl, rfl⟩ | ⟨rfl, rfl⟩ | ⟨rfl, rfl⟩ | ⟨rfl, rfl⟩ | ⟨rfl, rfl⟩
  all_goals
    rcases params with _ | ⟨a, _ | ⟨b, _ | ⟨c, _ | ⟨d, rest⟩⟩⟩⟩ <;> simp [commandOf] at hn ⊢

/-- Settles O26: the tests of R168 in their order. -/
theorem malformedCommandsAnswered : Obligations.MalformedCommandsAnswered := by
  intro bits s hs hb
  have refused : ∀ {st : Status}, portEvent (assembleBytes bits) = .refuse st →
      exec (.unknownCommand bits) s = .next (s.answered st []) := fun h => by
    rw [exec_unknownCommand hb, hs.event_periodEnd, hs.periodEnd_of_refused h]
  refine ⟨fun h => ?_, fun b h => refused (by rw [h]; rfl), fun code n rest h => ?_⟩
  · rw [exec_unknownCommand hb, hs.event_periodEnd, h]
    rfl
  · rw [h, portEvent_cons_cons] at refused
    refine ⟨fun short => refused (if_pos short), fun long sum => ?_, fun long sum unknown => ?_,
      fun count long sum mem wrong => ?_⟩
    · exact refused (by rw [if_neg (by omega), if_pos sum])
    · refine refused ?_
      rw [if_neg (by omega), if_neg (not_not.mpr sum), commandOf_of_not_mem unknown]
    · refine refused ?_
      rw [if_neg (by omega), if_neg (not_not.mpr sum), commandOf_of_wrong_count mem]
      rw [List.length_take]
      omega

/-- A command bound to the other role is turned away in every station state (R2, R168). -/
theorem replyOf_of_other_role {c : Instr} {r : Role} {states : List StationState} {s : State}
    (h : takenRoleStates c = some (some r, states)) (hr : s.sc.role ≠ r) : replyOf c s = turnedAway .role s := by
  cases c <;> simp [takenRoleStates] at h
  all_goals
    obtain ⟨rfl, -⟩ := h
    exact if_neg hr

/-- A command of the right role is turned away in a state that does not take it (R8, Table 10.1). -/
theorem replyOf_of_other_state {c : Instr} {bound : Option Role} {states : List StationState} {s : State}
    (h : takenRoleStates c = some (bound, states)) (hr : ∀ r, bound = some r → s.sc.role = r)
    (hx : s.sc.state ∉ states) : replyOf c s = turnedAway .state s := by
  have all : s.sc.state ∈ [StationState.config, .listen, .active, .muted, .quiet] := by
    cases s.sc.state <;> simp
  cases c <;> simp only [takenRoleStates, Option.some.injEq, Prod.mk.injEq, reduceCtorEq] at h
  all_goals obtain ⟨rfl, rfl⟩ := h
  case setRequest | setAvailable | setTarget | readStation | readFigures | listPeers | readPeer | readCounters
    | ackLatches => exact absurd all hx
  case reseek => exact (if_pos (hr _ rfl)).trans (if_neg hx)
  all_goals exact if_neg hx

/-- Settles O27: the role test, then the state test, and a command turned away changes nothing but the answer. -/
theorem roleAndStateTests : Obligations.RoleAndStateTests := by
  intro c bound states s h hs
  have turned : ∀ {st : Status}, replyOf c s = turnedAway st s → exec c s = .next (s.answered st []) := fun e => by
    rw [exec_of_host (by rw [h]; rfl), hs.event_portCommand, State.taking_of_turnedAway e]
  refine ⟨?_, fun hr hx => turned (replyOf_of_other_state h hr hx)⟩
  rintro r rfl hr
  exact turned (replyOf_of_other_role h hr)

/-- Settles O25: a fall of SSN, the bits that follow, and a row without a select period. -/
theorem selectPeriods : Obligations.SelectPeriods := by
  refine ⟨fun s running high => ⟨_, ?_, rfl, fun n => ?_⟩, fun s low => ?_, fun c s host running idle => ?_⟩
  · exact (State.event_of_running running _).trans (by rw [if_pos high])
  · simp only [State.sdo, Option.map_some, Option.some.injEq]
    rw [List.take_append, List.take_replicate, List.length_take]
    congr 2
    omega
  · change s.event _ = _
    simp [State.event, low]
  · rw [exec_of_host host, State.event_of_running running, State.portCommand_of_none idle]
    simp only [State.deselect, idle]

end Sys2Proof.Machine
end

section
/-! The frames of the link: what a station sends reads back, and what reads back is lawful (chapter 3, section 11.1). -/

namespace Sys2Proof.Machine

/-! ### Packed fields -/

theorem takeWord_of_absent (rest : List Byte) : takeWord false rest = some (none, rest) := by
  rcases rest with _ | ⟨h, _ | ⟨l, rest⟩⟩ <;> rfl

theorem takeWord_of_present (x : Int) (rest : List Byte) :
    takeWord true (be16 x ++ rest) = some (some (BitVec.ofInt 16 x), rest) := by
  simp only [be16, List.cons_append, List.nil_append, takeWord, word_of_bytes, if_true]

theorem takeWord_packSigned (m : Option Int) (rest : List Byte) :
    takeWord m.isSome (packSigned m ++ rest) = some (m.map (BitVec.ofInt 16), rest) := by
  cases m with
  | none => exact takeWord_of_absent rest
  | some x => exact takeWord_of_present x rest

theorem takeWord_packUnsigned (m : Option Nat) (rest : List Byte) :
    takeWord m.isSome (packUnsigned m ++ rest) = some (m.map fun (n : Nat) => BitVec.ofInt 16 n, rest) := by
  cases m with
  | none => exact takeWord_of_absent rest
  | some n => exact takeWord_of_present n rest

theorem takeByte_packByte (m : Option Nat) : takeByte m.isSome (packByte m) = some (m.map byte, []) := by
  cases m <;> rfl

/-- A signed 16-bit field is read as it was sent. -/
theorem toInt_ofInt_of_bounds {x : Int} (h : -32768 ≤ x ∧ x ≤ 32767) : (BitVec.ofInt 16 x).toInt = x := by
  rw [BitVec.toInt_ofInt]
  exact Int.bmod_eq_of_le (by omega) (by omega)

/-- An unsigned 16-bit field is read as it was sent. -/
theorem toNat_ofInt_of_le {n : Nat} (h : n ≤ 65535) : (BitVec.ofInt 16 (n : Int)).toNat = n := by
  rw [BitVec.toNat_ofInt]
  omega

theorem toNat_byte_of_le {n : Nat} (h : n ≤ 255) : (byte n).toNat = n := by
  rw [byte, BitVec.toNat_ofNat]
  omega

theorem map_map_eq_self {α β : Type} {f : α → β} {g : β → α} {o : Option α} (h : ∀ a ∈ o, g (f a) = a) :
    (o.map f).map g = o := by
  cases o with
  | none => rfl
  | some a => exact congrArg some (h a rfl)

/-! ### Masks and flags (Tables 11.3 and 11.4) -/

theorem presenceMask_bits (margin : Option Int) (flow : Option Nat) (deltaT : Option Int) (cap weight : Option Nat) :
    (presenceMask margin flow deltaT cap weight).getLsbD 0 = margin.isSome ∧
    (presenceMask margin flow deltaT cap weight).getLsbD 1 = flow.isSome ∧
    (presenceMask margin flow deltaT cap weight).getLsbD 2 = deltaT.isSome ∧
    (presenceMask margin flow deltaT cap weight).getLsbD 3 = cap.isSome ∧
    (presenceMask margin flow deltaT cap weight).getLsbD 4 = weight.isSome := by
  unfold presenceMask
  exact ⟨flagByte_getLsbD _ (by simp) 0 (by omega), flagByte_getLsbD _ (by simp) 1 (by omega),
    flagByte_getLsbD _ (by simp) 2 (by omega), flagByte_getLsbD _ (by simp) 3 (by omega),
    flagByte_getLsbD _ (by simp) 4 (by omega)⟩

theorem presenceMask_lt (margin : Option Int) (flow : Option Nat) (deltaT : Option Int) (cap weight : Option Nat) :
    (presenceMask margin flow deltaT cap weight).toNat < 32 :=
  (by decide : ∀ a b c d e : Bool, (flagByte [a, b, c, d, e]).toNat < 32) _ _ _ _ _

theorem ReportFlags.ofByte_toByte (f : ReportFlags) : ReportFlags.ofByte f.toByte = f := by
  unfold ReportFlags.ofByte ReportFlags.toByte
  obtain ⟨a, b, c, d, e, g, i⟩ := f
  simp only [ReportFlags.mk.injEq]
  exact ⟨flagByte_getLsbD _ (by simp) 0 (by omega), flagByte_getLsbD _ (by simp) 1 (by omega),
    flagByte_getLsbD _ (by simp) 2 (by omega), flagByte_getLsbD _ (by simp) 3 (by omega),
    flagByte_getLsbD _ (by simp) 4 (by omega), flagByte_getLsbD _ (by simp) 5 (by omega),
    flagByte_getLsbD _ (by simp) 6 (by omega)⟩

/-! ### The format check (R51) -/

theorem fieldsFitRole_of_lawful {r : Report} (h : r.lawful) :
    fieldsFitRole r.role r.margin.isSome r.cap.isSome r.weight.isSome = true := by
  obtain ⟨-, -, -, -, -, -, -, -, customer, plant⟩ := h
  cases hr : r.role with
  | plant =>
    obtain ⟨hm, hc, hw⟩ := plant hr
    simp [fieldsFitRole, hm, hc, hw]
  | customer => simp [fieldsFitRole, customer hr]

/-- The body of a lawful report passes the format check as that report (R51). -/
theorem reportOfBody_body {r : Report} (h : r.lawful) : ∃ high low fields,
    r.body = byte r.source :: (0x10 ||| r.role.code) :: r.sequence :: r.flags.toByte ::
      presenceMask r.margin r.flow r.deltaT r.cap r.weight :: high :: low :: fields ∧
    reportOfBody r.source r.role r.sequence r.flags.toByte
      (presenceMask r.margin r.flow r.deltaT r.cap r.weight) high low fields = some r := by
  have fits := fieldsFitRole_of_lawful h
  obtain ⟨-, -, output, margin, flow, deltaT, cap, weight, -, -⟩ := h
  refine ⟨(BitVec.ofInt 16 (r.output : Int)).extractLsb' 8 8, (BitVec.ofInt 16 (r.output : Int)).extractLsb' 0 8,
    packSigned r.margin ++ (packUnsigned r.flow ++ (packSigned r.deltaT ++ (packUnsigned r.cap ++ packByte r.weight))),
    by simp [Report.body, be16], ?_⟩
  obtain ⟨m0, m1, m2, m3, m4⟩ := presenceMask_bits r.margin r.flow r.deltaT r.cap r.weight
  have hm : (r.margin.map (BitVec.ofInt 16)).map (·.toInt) = r.margin :=
    map_map_eq_self fun x hx => toInt_ofInt_of_bounds (margin x hx)
  have hf : (r.flow.map fun (n : Nat) => BitVec.ofInt 16 n).map (·.toNat) = r.flow :=
    map_map_eq_self fun x hx => toNat_ofInt_of_le (flow x hx)
  have hd : (r.deltaT.map (BitVec.ofInt 16)).map (·.toInt) = r.deltaT :=
    map_map_eq_self fun x hx => toInt_ofInt_of_bounds (deltaT x hx)
  have hc : (r.cap.map fun (n : Nat) => BitVec.ofInt 16 n).map (·.toNat) = r.cap :=
    map_map_eq_self fun x hx => toNat_ofInt_of_le ((cap x hx).trans (by omega))
  have hw : (r.weight.map byte).map (·.toNat) = r.weight :=
    map_map_eq_self fun x hx => toNat_byte_of_le (weight x hx).2
  have capFits : (r.cap.map fun (n : Nat) => BitVec.ofInt 16 n).all (·.toNat ≤ 9999) = true := by
    rw [Option.all_map]
    refine (Option.all_eq_true _ _).mpr fun x hx => ?_
    have := cap x hx
    simp only [decide_eq_true_eq, toNat_ofInt_of_le (this.trans (by omega)), this]
  have weightFits : (r.weight.map byte).all (·.toNat ≠ 0) = true := by
    rw [Option.all_map]
    refine (Option.all_eq_true _ _).mpr fun x hx => ?_
    have := weight x hx
    simp only [decide_eq_true_eq, toNat_byte_of_le this.2]
    omega
  have out : ((BitVec.ofInt 16 (r.output : Int)).extractLsb' 8 8 ++ (BitVec.ofInt 16 (r.output : Int)).extractLsb' 0 8 :
      BitVec (8 + 8)).toNat = r.output := by
    rw [word_of_bytes, toNat_ofInt_of_le (output.trans (by omega))]
  simp only [reportOfBody, m0, m1, m2, m3, m4, takeWord_packSigned, takeWord_packUnsigned, takeByte_packByte,
    Option.bind_eq_bind, Option.bind_some, out, capFits, weightFits, ReportFlags.ofByte_toByte, hm, hf, hd, hc, hw,
    Option.isSome_map, fits, output, presenceMask_lt, and_self, if_true]

/-- The body of a lawful frame passes the format check as that frame (R51, R52). -/
theorem frameOfBody_body {f : Frame} (h : f.lawful) : frameOfBody f.body = some f := by
  have code : ∀ role : Role, roleOf ((0x10 ||| role.code).toNat % 16) = some role ∧
      (0x10 ||| role.code).toNat / 16 = 1 ∧ roleOf ((0x20 ||| role.code).toNat % 16) = some role ∧
      (0x20 ||| role.code).toNat / 16 = 2 := by intro role; cases role <;> decide
  cases f with
  | report r =>
    obtain ⟨low, high, -⟩ := id h
    obtain ⟨a, b, fields, body, read⟩ := reportOfBody_body h
    obtain ⟨role, kind, -, -⟩ := code r.role
    have source : (byte r.source).toNat = r.source := toNat_byte_of_le (high.trans (by omega))
    simp only [Frame.body, body, frameOfBody, source, low, high, and_self, if_true, role, kind, read, Option.map_some]
    rfl
  | notice n =>
    obtain ⟨low, high⟩ := id h
    obtain ⟨-, -, role, kind⟩ := code n.role
    have source : (byte n.source).toNat = n.source := toNat_byte_of_le (high.trans (by omega))
    simp only [Frame.body, Notice.body, frameOfBody, source, low, high, and_self, if_true, role, kind]

/-- What passes the format check as a report is a lawful one (R51). -/
theorem reportOfBody_lawful {source : Nat} {role : Role} {sequence flags mask high low : Byte} {fields : List Byte}
    {r : Report} (hs : 1 ≤ source ∧ source ≤ 32)
    (h : reportOfBody source role sequence flags mask high low fields = some r) : r.lawful := by
  simp only [reportOfBody, Option.bind_eq_bind, Option.bind_eq_some_iff, Option.ite_none_right_eq_some] at h
  obtain ⟨⟨margin, _⟩, -, ⟨flow, _⟩, -, ⟨deltaT, _⟩, -, ⟨cap, _⟩, -, ⟨weight, _⟩, -, ⟨-, -, output, hcap, hweight, fits⟩, h⟩ := h
  cases h
  have signed : ∀ w : Word16, -32768 ≤ w.toInt ∧ w.toInt ≤ 32767 := fun w => by
    have := w.le_toInt; have := w.toInt_lt; omega
  refine ⟨hs.1, hs.2, output, ?_, ?_, ?_, ?_, ?_, ?_, ?_⟩
  · rintro m hm
    obtain ⟨w, -, rfl⟩ := Option.map_eq_some_iff.mp hm
    exact signed w
  · rintro f hf
    obtain ⟨w, -, rfl⟩ := Option.map_eq_some_iff.mp hf
    have := w.isLt
    omega
  · rintro d hd
    obtain ⟨w, -, rfl⟩ := Option.map_eq_some_iff.mp hd
    exact signed w
  · rintro c hc
    obtain ⟨w, hw, rfl⟩ := Option.map_eq_some_iff.mp hc
    exact of_decide_eq_true ((Option.all_eq_true _ _).mp hcap w hw)
  · rintro c hc
    obtain ⟨w, hw, rfl⟩ := Option.map_eq_some_iff.mp hc
    have := w.isLt
    have nonzero : w.toNat ≠ 0 := of_decide_eq_true ((Option.all_eq_true _ _).mp hweight w hw)
    omega
  · rintro rfl
    simpa [fieldsFitRole] using fits
  · rintro rfl
    simpa [fieldsFitRole, and_assoc] using fits

/-- What passes the format check is a lawful frame (R51, R52). -/
theorem frameOfBody_lawful {body : List Byte} {f : Frame} (h : frameOfBody body = some f) : f.lawful := by
  have source := frameOfBody_source h
  cases f with
  | notice n => exact source
  | report r =>
    unfold frameOfBody at h
    split at h
    · obtain ⟨hs, h⟩ := Option.ite_none_right_eq_some.mp h
      split at h
      · cases h
      · split at h
        · obtain ⟨-, h⟩ := Option.ite_none_right_eq_some.mp h
          cases h
        · obtain ⟨-, h⟩ := Option.ite_none_right_eq_some.mp h
          split at h
          · obtain ⟨r, hr, e⟩ := Option.map_eq_some_iff.mp h
            cases e
            exact reportOfBody_lawful hs hr
          · cases h
    · cases h

/-- A good frame is lawful (R51). -/
theorem checkFrame_lawful {cs : List Byte} {f : Frame} (h : checkFrame cs = .good f) : f.lawful := by
  unfold checkFrame at h
  split at h
  · cases h
  · dsimp only at h
    split at h
    · cases h
    · split at h
      · cases h
      · next hf => cases h; exact frameOfBody_lawful hf

/-! ### Whole frames -/

/-- A body has at most fifteen characters (R42). -/
theorem Frame.body_length {f : Frame} (h : f.lawful) : 3 ≤ f.body.length ∧ f.body.length ≤ 15 := by
  cases f with
  | notice n => simp [Frame.body, Notice.body]
  | report r =>
    have two : ∀ m : Option Int, (packSigned m).length ≤ 2 := by rintro (_ | x) <;> simp [packSigned, be16]
    have two' : ∀ m : Option Nat, (packUnsigned m).length ≤ 2 := by rintro (_ | x) <;> simp [packUnsigned, be16]
    have one : ∀ m : Option Nat, (packByte m).length ≤ 1 := by rintro (_ | x) <;> simp [packByte]
    have := two r.margin; have := two' r.flow; have := two r.deltaT; have := two' r.cap; have := one r.weight
    obtain ⟨-, -, -, -, -, -, -, -, customer, plant⟩ := id h
    cases hr : r.role with
    | plant =>
      obtain ⟨hm, hc, -⟩ := plant hr
      have none' : (packSigned none).length = 0 ∧ (packUnsigned none).length = 0 := ⟨rfl, rfl⟩
      simp only [Frame.body, Report.body, be16, hm, hc, List.length_append, List.length_cons, List.length_nil]
      omega
    | customer =>
      have none' : (packByte none).length = 0 := rfl
      simp only [Frame.body, Report.body, be16, customer hr, List.length_append, List.length_cons, List.length_nil]
      omega

/-- The characters of a body with its length and its check field pass the check of that body (R43, R51). -/
theorem checkFrame_characters {f : Frame} (hl : f.body.length ≤ 255) (h : frameOfBody f.body = some f) :
    checkFrame f.characters = .good f := by
  have count := toNat_byte_of_le hl
  simp only [Frame.characters, List.cons_append, checkFrame, count, List.take_left', List.drop_left', ne_eq,
    not_true_eq_false, if_false, h]

theorem Frame.levels_length (f : Frame) : f.levels.length = 10 * (f.characters.length + 1) := by
  have ten : ∀ cs : List Byte, (cs.flatMap characterLevels).length = 10 * cs.length := by
    intro cs
    induction cs with
    | nil => rfl
    | cons c cs ih => simp [characterLevels, ih]; omega
  rw [Frame.levels, ten]
  rfl

/-- The layout of a report's body (Tables 11.2 to 11.4). -/
theorem Report.body_layout (r : Report) (word : Int → List Byte)
    (h : ∀ x, word x = [(BitVec.ofInt 16 x).extractLsb' 8 8, (BitVec.ofInt 16 x).extractLsb' 0 8]) :
    r.body.take 3 = [BitVec.ofNat 8 r.source, 0x10 + r.role.code, r.sequence] ∧
    flagsAt r.body 3 [r.flags.restarted, r.flags.available, r.flags.atLimit, r.flags.starved, r.flags.yielding,
      r.flags.sensorFault, r.flags.indexNone] ∧
    flagsAt r.body 4 [r.margin.isSome, r.flow.isSome, r.deltaT.isSome, r.cap.isSome, r.weight.isSome] ∧
    r.body.drop 5 = word r.output ++ (r.margin.map word).getD [] ++ (r.flow.map fun x => word x).getD [] ++
      (r.deltaT.map word).getD [] ++ (r.cap.map fun x => word x).getD [] ++
      (r.weight.map fun x => [BitVec.ofNat 8 x]).getD [] := by
  obtain rfl : word = be16 := funext h
  have signed : ∀ m, packSigned m = (m.map be16).getD [] := by rintro (_ | x) <;> rfl
  have unsigned : ∀ m : Option Nat, packUnsigned m = (m.map fun x => be16 x).getD [] := by rintro (_ | x) <;> rfl
  have weight : packByte r.weight = (r.weight.map fun x => [BitVec.ofNat 8 x]).getD [] := by cases r.weight <;> rfl
  refine ⟨?_, fun k hk => flagByte_getLsbD _ (by simp) k hk, fun k hk => flagByte_getLsbD _ (by simp) k hk, ?_⟩
  · rw [(by cases r.role <;> rfl : (0x10 : Byte) + r.role.code = 0x10 ||| r.role.code)]
    rfl
  · change be16 r.output ++ packSigned r.margin ++ packUnsigned r.flow ++ packSigned r.deltaT ++ packUnsigned r.cap ++
      packByte r.weight = _
    rw [signed, signed, unsigned, unsigned, weight]

theorem sampleCharacter_levels (c : Byte) : sampleCharacter (characterLevels c) = .good c := by
  simp only [characterLevels, sampleCharacter, flagByte_bits, if_true]

/-- Settles O23: frames to characters and back, characters to levels and back. -/
theorem framesRoundTrip : Obligations.FramesRoundTrip := by
  refine ⟨fun f h => ?_, fun _ _ => checkFrame_lawful, ?_, fun n => ⟨?_, rfl⟩,
    fun r word h => ⟨rfl, r.body_layout word h⟩, fun c => ⟨sampleCharacter_levels c, rfl, rfl⟩⟩
  · obtain ⟨low, high⟩ := f.body_length h
    have length : f.characters.length = f.body.length + 3 := by simp [Frame.characters]
    exact ⟨checkFrame_characters (by omega) (frameOfBody_body h), low, high, length, by rw [f.levels_length, length]⟩
  · rintro f covered crc rfl rfl
    simp only [Frame.characters, crc16, byte]
    have step : crcBit = fun (r : Word16) bit => if r.msb = bit then r <<< 1 else (r <<< 1) ^^^ 0x1021 := by
      funext r bit
      simp [crcBit]
    rw [step]
  · rw [(by cases n.role <;> rfl : (0x20 : Byte) + n.role.code = 0x20 ||| n.role.code)]
    rfl

end Sys2Proof.Machine
end

section
/-! The configuration set and the channels (R3 to R6, R24 to R31, R180): what CONFIGURE, START and the runtime settings do, and
the laws of both that every step keeps. -/

namespace Sys2Proof.Machine

/-! ### Parameters -/

/-- A parameter in its range has the value that was put (R4). -/
theorem ConfigSet.value_put_self {p : Param} {x : Int} (h : p.inRange x = true) (c : ConfigSet) :
    (c.put p x).value p = x := by
  cases p
  case chLo n => simp [ConfigSet.put, ConfigSet.value]
  case chHi n => simp [ConfigSet.put, ConfigSet.value]
  all_goals
    simp only [Param.inRange, Bool.and_eq_true, decide_eq_true_eq] at h
    simp only [ConfigSet.put, ConfigSet.value]
    omega

/-- The ends of the spans are the fields of a span of a channel. -/
theorem ConfigSet.value_chLo (c : ConfigSet) (n : Fin 4) : c.value (.chLo n) = (c.span.get n).lo := rfl

theorem ConfigSet.value_chHi (c : ConfigSet) (n : Fin 4) : c.value (.chHi n) = (c.span.get n).hi := rfl

/-- Putting the lower end of a span moves no other parameter. -/
theorem ConfigSet.value_put_chLo {n : Fin 4} {q : Param} (h : q ≠ .chLo n) (c : ConfigSet) (x : Int) :
    (c.put (.chLo n) x).value q = c.value q := by
  cases q
  case chLo m => exact congrArg Span.lo (Four.get_set_of_ne _ (by rintro rfl; exact h rfl) _)
  case chHi m =>
    by_cases hm : m = n
    · rw [hm, ConfigSet.value_chHi, ConfigSet.put, Four.get_set_self]; rfl
    · exact congrArg Span.hi (Four.get_set_of_ne _ hm _)
  all_goals rfl

/-- Putting the upper end of a span moves no other parameter. -/
theorem ConfigSet.value_put_chHi {n : Fin 4} {q : Param} (h : q ≠ .chHi n) (c : ConfigSet) (x : Int) :
    (c.put (.chHi n) x).value q = c.value q := by
  cases q
  case chHi m => exact congrArg Span.hi (Four.get_set_of_ne _ (by rintro rfl; exact h rfl) _)
  case chLo m =>
    by_cases hm : m = n
    · rw [hm, ConfigSet.value_chLo, ConfigSet.put, Four.get_set_self]; rfl
    · exact congrArg Span.lo (Four.get_set_of_ne _ hm _)
  all_goals rfl

/-- No other parameter moves (R4): each but the ends of the spans is a field of its own. -/
theorem ConfigSet.value_put_of_ne {p q : Param} (h : q ≠ p) (c : ConfigSet) (x : Int) :
    (c.put p x).value q = c.value q := by
  cases p
  case chLo n => exact c.value_put_chLo h x
  case chHi n => exact c.value_put_chHi h x
  all_goals cases q <;> simp_all [ConfigSet.put, ConfigSet.value]

/-- A value put in its range leaves every parameter in its range. -/
theorem ConfigSet.inRange_put {c : ConfigSet} (h : ∀ q : Param, q.inRange (c.value q) = true) {p : Param} {x : Int}
    (hx : p.inRange x = true) (q : Param) : q.inRange ((c.put p x).value q) = true := by
  by_cases hq : q = p
  · rw [hq, ConfigSet.value_put_self hx]; exact hx
  · rw [ConfigSet.value_put_of_ne hq]; exact h q

/-- The relations that START checks (R6). -/
theorem ConfigSet.relationsHold_iff (c : ConfigSet) : c.relationsHold = true ↔
    (∀ n, (c.span.get n).lo < (c.span.get n).hi) ∧ c.speedMin ≤ c.speedMax ∧ c.speedMin ≤ c.fallbackSpeed ∧
      c.fallbackSpeed ≤ c.speedMax := by
  have spans : (∀ n, (c.span.get n).lo < (c.span.get n).hi) ↔ c.span.toList.all (fun p => p.lo < p.hi) = true := by
    simp only [Four.toList, List.all_cons, List.all_nil, Bool.and_true, Bool.and_eq_true, decide_eq_true_eq]
    exact ⟨fun h => ⟨h 0, h 1, h 2, h 3⟩, fun ⟨h0, h1, h2, h3⟩ n => match n with | 0 => h0 | 1 => h1 | 2 => h2 | 3 => h3⟩
  simp [ConfigSet.relationsHold, spans, and_assoc]

/-- m_target is set as a parameter is put: SET_TARGET clamps it to its range (R5). -/
theorem ConfigSet.mTarget_eq_put (c : ConfigSet) (v : Word16) :
    { c with mTarget := (clamp 0 5000 v.toInt).toNat } = c.put .mTarget (clamp 0 5000 v.toInt) := rfl

theorem clamp_inRange_mTarget (x : Int) : Param.inRange .mTarget (clamp 0 5000 x) = true := by
  have bounds : 0 ≤ clamp 0 5000 x ∧ clamp 0 5000 x ≤ 5000 := by unfold clamp; omega
  simp [Param.inRange, bounds]

/-! ### The law of the configuration set (R4, R6) -/

theorem State.configLaw.of_eq {s t : State} (h : s.configLaw) (hcfg : t.cfg = s.cfg)
    (hc : s.sc.state = .config → t.sc.state = .config) : t.configLaw := by
  obtain ⟨range, relations⟩ := h
  unfold State.configLaw
  rw [hcfg]
  exact ⟨range, fun ht => relations fun hs => ht (hc hs)⟩

theorem State.countStep_commit_config (s : State) (k : Taken) :
    (s.complete k).sc.state = .config ↔ s.sc.state = .config := by
  unfold State.complete
  dsimp only
  split <;> simp [State.countStep_config]

theorem State.completion_config (s : State) : s.completion.sc.state = .config ↔ s.sc.state = .config := by
  unfold State.completion
  split
  · exact State.countStep_commit_config _ _
  all_goals exact .rfl

theorem State.configLaw.serves {s t : State} (h : s.configLaw) (m : s.Serves t) : t.configLaw := by
  obtain ⟨range, relations⟩ := id h
  cases m
  case stored p x hc hx =>
    obtain ⟨mu, fcu, e⟩ := s.store_frame p x
    rw [e]
    exact ⟨ConfigSet.inRange_put range hx, fun ht => absurd hc ht⟩
  case started hc hrel =>
    unfold State.startStation
    have ⟨mode, count, vd, e⟩ := State.listenDrives_frame { s with
      sc.state := .listen, sc.listenCount := 2, lu := s.lu.turnOn, cu.timer := some 0 }
    rw [e]
    exact ⟨range, fun _ => hrel⟩
  case targetSet v hr =>
    exact ⟨ConfigSet.inRange_put range (clamp_inRange_mTarget v.toInt), relations⟩
  case released => exact h.of_eq (by simp) (by simp)
  case resumed => exact h.of_eq (by simp) (by simp)
  case left hx => exact h.of_eq s.leaveNetwork_cfg (by rintro e; simp [e] at hx)
  case rejoined hx => exact h.of_eq s.rejoinNetwork_cfg (by rintro e; simp [e] at hx)
  case restarted hx => exact h.of_eq s.softRestart_cfg (absurd · hx)
  all_goals exact h

theorem State.configLaw.moves {s t : State} (h : s.configLaw) (m : s.Moves t) : t.configLaw := by
  rcases m.engine_cases with k | rfl | rfl | ⟨u, r, hu, rfl⟩
  · exact h.of_eq k.cfg k.config.mpr
  · exact h.of_eq s.boundary_cfg (by rw [s.boundary_sc]; exact id)
  · exact h.of_eq s.completion_cfg s.completion_config.mpr
  · exact (h.serves hu :)

theorem State.hardReset_configLaw (s : State) : s.hardReset.configLaw :=
  ⟨(Tests.configLaw_busy State.reset rfl).1, fun h => absurd rfl h⟩

/-- Settles O13: what is put is in its range, and START checks the relations before the station runs. -/
theorem stepKeepsConfigLaw : Obligations.StepKeepsConfigLaw := fun _ _ hs h =>
  step_keeps (P := State.configLaw) (fun _ _ _ hq => hq) (fun s _ => s.hardReset_configLaw)
    (fun _ _ _ _ _ _ hs => hs) (fun _ _ _ hs hm => hs.moves hm) hs h

/-! ### Channels (R24 to R31) -/

theorem sat16_bounds (x : Int) : -32768 ≤ sat16 x ∧ sat16 x ≤ 32767 := by
  unfold sat16
  omega

theorem filteredBy_bounds {sample : Int} (h : -32768 ≤ sample ∧ sample ≤ 32767) (shift : Nat) (f : Option Int) :
    -32768 ≤ filteredBy shift sample f ∧ filteredBy shift sample f ≤ 32767 := by
  cases f with
  | none => exact h
  | some f => exact sat16_bounds _

theorem Channel.unseed_lawful {c : Channel} : c.unseed.lawful := by
  simp [Channel.unseed, Channel.lawful]

/-- A channel seeded by a sample (R25, R29). -/
theorem Channel.seeded_lawful (code : BitVec 12) (lo hi : Int) (k : Nat) :
    Channel.lawful ⟨some code, .valid, some (sampleOf lo hi k), 0, 0⟩ := by
  have := sat16_bounds (lo + roundDiv (((k : Int) - 640) * (hi - lo)) 2560)
  simp [Channel.lawful, sampleOf, this]

/-- A conversion keeps a record lawful, whatever its code and its channel's state (Table 2.5). -/
theorem Channel.convert_lawful {c : Channel} (h : c.lawful) (span : Span) (shift : Nat) (code : BitVec 12) :
    (c.convert span shift code).lawful := by
  obtain ⟨present, bounds, held, recovering, counts, seeded⟩ := id h
  unfold Channel.convert
  split
  · split
    next hs => simp_all [Channel.lawful]
    next hs => simp_all [Channel.lawful]
    next hs =>
      split
      · simp_all [Channel.lawful]
      · simp [Channel.lawful]
    next hs => simp_all [Channel.lawful]
  · next k _ =>
    dsimp only
    split
    next hs => exact Channel.seeded_lawful ..
    next hs =>
      have := filteredBy_bounds (sat16_bounds (span.lo + roundDiv (((k : Int) - 640) * (span.hi - span.lo)) 2560)) shift
        c.filtered
      simp_all [Channel.lawful, sampleOf]
    next hs =>
      split
      · simp_all [Channel.lawful]
      · exact Channel.seeded_lawful ..
    next hs =>
      split
      · simp_all [Channel.lawful]
      · exact Channel.seeded_lawful ..

/-- A channel record stands, is converted, or is unseeded. -/
inductive Channel.Becomes (c : Channel) : Channel → Prop
  | stands : c.Becomes c
  | converted (span : Span) (shift : Nat) (code : BitVec 12) : c.Becomes (c.convert span shift code)
  | unseeded : c.Becomes c.unseed

theorem Channel.Becomes.lawful {c d : Channel} (h : c.Becomes d) (hc : c.lawful) : d.lawful := by
  cases h with
  | stands => exact hc
  | converted span shift code => exact Channel.convert_lawful hc span shift code
  | unseeded => exact Channel.unseed_lawful

theorem Four.set_becomes {f : Four Channel} {n : Fin 4} {d : Channel} (h : (f.get n).Becomes d) (m : Fin 4) :
    (f.get m).Becomes ((f.set n d).get m) := by
  by_cases hm : m = n
  · rw [hm, Four.get_set_self]; exact h
  · rw [Four.get_set_of_ne _ hm]; exact .stands

theorem State.store_mu (p : Param) (x : Int) (s : State) : (s.store p x).mu = { s.mu with channels :=
    match p with
    | .chLo n | .chHi n => s.mu.channels.set n (s.mu.channels.get n).unseed
    | _ => s.mu.channels } := by
  unfold State.store
  cases p <;> simp

/-- What a move does to each channel record (R21, R31). -/
theorem State.Moves.channels {s t : State} (h : s.Moves t) (n : Fin 4) :
    (s.mu.channels.get n).Becomes (t.mu.channels.get n) := by
  have waits : ∀ {u : State}, s.Waits u → u.mu.channels = s.mu.channels := by rintro u (_ | d) <;> rfl
  have of_eq : ∀ {u : State}, u.mu.channels = s.mu.channels → (s.mu.channels.get n).Becomes (u.mu.channels.get n) :=
    fun e => by rw [e]; exact .stands
  rcases h.kinds with w | m | l | a | g
  · exact of_eq (waits w)
  · cases m
    case conversion code =>
      simp only [State.conversion, State.setLatchIf_mu]
      exact Four.set_becomes (.converted _ _ _) n
    case flowCapture v =>
      rcases s.flowCapture_cases v with h | ⟨d, late, f, noise, h⟩ <;> rw [h]
      · exact .stands
      · exact of_eq (by simp)
    case flowinLow => exact .stands
    case flowTimeout =>
      rcases s.flowTimeout_cases with h | ⟨d, f, h⟩ <;> rw [h]
      · exact .stands
      · exact of_eq rfl
  · obtain ⟨u, w, r⟩ := l.frame
    cases r
    exact (of_eq (waits w) :)
  · obtain ⟨u, vd, w, rfl⟩ := a.frame
    exact (of_eq (waits w) :)
  · cases g
    case selected => exact .stands
    case deselected => exact .stands
    case boundary => exact of_eq (by unfold State.boundary State.atBoundary; repeat' split <;> simp)
    case completion =>
      refine of_eq ?_
      unfold State.completion State.complete
      dsimp only
      split
      · split <;> simp
      all_goals rfl
    case answered u r hu =>
      change (s.mu.channels.get n).Becomes (u.mu.channels.get n)
      cases hu
      case stored p x _ _ =>
        rw [State.store_mu]
        dsimp only
        split
        · exact Four.set_becomes .unseeded n
        · exact Four.set_becomes .unseeded n
        · exact .stands
      case started => exact of_eq (by unfold State.startStation State.listenDrives; dsimp only; split <;> rfl)
      case released => exact of_eq (by simp)
      case resumed => exact of_eq (by simp)
      case left => exact of_eq (by
        unfold State.leaveNetwork State.quietDrives; dsimp only; split <;> split <;> simp)
      case rejoined => exact of_eq (by
        unfold State.rejoinNetwork State.rejoinDrives; dsimp only; repeat' split
        all_goals simp)
      case restarted => exact of_eq (by unfold State.softRestart State.listenDrives; dsimp only; split <;> simp)
      all_goals exact .stands

theorem State.hardReset_channelLaw (s : State) : s.hardReset.channelLaw := by
  intro n
  match n with
  | 0 | 1 | 2 | 3 => exact Channel.unseed_lawful (c := Channel.unseededRecord)

/-- Settles O18: a conversion and a configured span keep a record lawful, and nothing else reaches it. -/
theorem stepKeepsChannelLaw : Obligations.StepKeepsChannelLaw := fun _ _ hs h =>
  step_keeps (P := State.channelLaw) (fun _ _ _ hq => hq) (fun s _ => s.hardReset_channelLaw)
    (fun _ _ _ _ _ _ hs => hs) (fun _ _ _ hs hm n => (hm.channels n).lawful (hs n)) hs h

end Sys2Proof.Machine
end

section
/-! CONFIGURE, START and the runtime settings at the port (R4 to R6, R9, R139, R170, R180). -/

namespace Sys2Proof.Machine

/-- Out of hard reset and in a select period, a host command leaves the state of its reply with its answer. -/
theorem State.selected.exec_host {s t : State} (hs : s.selected) {c : Instr} (hc : (takenRoleStates c).isSome = true)
    {st : Status} {data : List Byte} (h : replyOf c s = (⟨st, data⟩, t)) : exec c s = .next (t.answered st data) := by
  rw [exec_of_host hc, hs.event_reply h]

/-! ### The parameters' table (Tables 1.1 and 11.7) -/

/-- A row names its parameter by its identifier. -/
theorem Param.ofId_of_mem : ∀ row ∈ parameterTable, Param.ofId row.1 = some row.2.1 := by decide

/-- Every identifier of a parameter has a row. -/
theorem Param.mem_of_ofId {id : Byte} {p : Param} (h : Param.ofId id = some p) :
    ∃ row ∈ parameterTable, row.1 = id ∧ row.2.1 = p := by
  have all : ∀ id : Byte, ∀ p ∈ Param.ofId id, ∃ row ∈ parameterTable, row.1 = id ∧ row.2.1 = p := by decide
  exact all id p h

theorem Param.ofId_iff (id : Byte) (p : Param) :
    Param.ofId id = some p ↔ ∃ lo hi d, (id, p, lo, hi, d) ∈ parameterTable := by
  constructor
  · intro h
    obtain ⟨⟨_, _, lo, hi, d⟩, hrow, rfl, rfl⟩ := Param.mem_of_ofId h
    exact ⟨lo, hi, d, hrow⟩
  · rintro ⟨lo, hi, d, hrow⟩
    exact Param.ofId_of_mem _ hrow

/-- The ranges are those of the table. -/
theorem Param.inRange_iff {id : Byte} {p : Param} {lo hi d : Int} (h : (id, p, lo, hi, d) ∈ parameterTable) (x : Int) :
    p.inRange x = true ↔ lo ≤ x ∧ x ≤ hi ∧ (p = .cyclePeriod → x % 250 = 0) := by
  have row : ∀ r ∈ parameterTable, r.2.1.inRange x = true ↔
      r.2.2.1 ≤ x ∧ x ≤ r.2.2.2.1 ∧ (r.2.1 = .cyclePeriod → x % 250 = 0) := by
    simp [parameterTable, Param.inRange, and_assoc]
  exact row _ h

/-- The value encodings (R180). -/
theorem Param.valueOf_eq (p : Param) (v : Word16) :
    ((∃ n, p = .chLo n ∨ p = .chHi n) → p.valueOf v = v.toInt) ∧
    ((∀ n, p ≠ .chLo n ∧ p ≠ .chHi n) → p.valueOf v = v.toNat) := by
  constructor
  · rintro ⟨n, rfl | rfl⟩ <;> rfl
  · intro h
    cases p
    case chLo n => exact absurd rfl (h n).1
    case chHi n => exact absurd rfl (h n).2
    all_goals rfl

/-! ### CONFIGURE -/

theorem replyConfigure_of_unknown {id : Byte} {v : Word16} {s : State} (hc : s.sc.state = .config)
    (h : Param.ofId id = none) : replyConfigure id v s = (⟨.range, []⟩, s) := by
  rw [replyConfigure, takenIn_of_mem (by simp [hc])]
  simp only [h]
  rfl

theorem replyConfigure_of_known {id : Byte} {v : Word16} {s : State} (hc : s.sc.state = .config) {p : Param}
    (h : Param.ofId id = some p) : replyConfigure id v s =
      if p.inRange (p.valueOf v) then (.ok, s.store p (p.valueOf v)) else (⟨.range, []⟩, s) := by
  rw [replyConfigure, takenIn_of_mem (by simp [hc])]
  simp only [h]
  rfl

/-- What a stored parameter does to the Flow Capture Unit: a flow_timeout already elapsed times it out (R36). -/
theorem State.store_fcu (p : Param) (x : Int) (s : State) : (s.store p x).fcu =
    if p = .flowTimeout ∧ s.fcu.seenEdge = true ∧ x.toNat * 1000000 ≤ s.fcu.elapsed then s.fcu.timedOut else s.fcu := by
  cases p
  case flowTimeout =>
    simp only [State.store, State.flowTimeoutIf, Bool.and_eq_true, decide_eq_true_eq, true_and]
    exact apply_ite State.fcu _ _ _
  all_goals rfl

theorem State.store_cfg (p : Param) (x : Int) (s : State) : (s.store p x).cfg = s.cfg.put p x := by
  obtain ⟨mu, fcu, e⟩ := s.store_frame p x
  rw [e]

/-- A stored parameter reaches the set, the channels and the Flow Capture Unit. -/
theorem State.store_eq (p : Param) (x : Int) (s : State) : s.store p x =
    { s with cfg := (s.store p x).cfg, mu.channels := (s.store p x).mu.channels, fcu := (s.store p x).fcu } := by
  cases p
  case flowTimeout =>
    simp only [State.store, State.flowTimeoutIf]
    split <;> rfl
  all_goals rfl

/-- The channel of a stored span is unseeded (R31). -/
theorem State.store_channel_of_span {p : Param} {n : Fin 4} (h : p = .chLo n ∨ p = .chHi n) (x : Int) (s : State) :
    (s.store p x).mu.channels.get n = ⟨(s.mu.channels.get n).raw, .unseeded, none, 0, 0⟩ := by
  rw [State.store_mu]
  rcases h with rfl | rfl <;> exact Four.get_set_self _ _ _

/-- No other channel moves. -/
theorem State.store_channel_of_ne {p : Param} {n : Fin 4} (hlo : p ≠ .chLo n) (hhi : p ≠ .chHi n) (x : Int) (s : State) :
    (s.store p x).mu.channels.get n = s.mu.channels.get n := by
  rw [State.store_mu]
  cases p
  case chLo m => exact Four.get_set_of_ne _ (by rintro rfl; exact hlo rfl) _
  case chHi m => exact Four.get_set_of_ne _ (by rintro rfl; exact hhi rfl) _
  all_goals rfl

/-- Settles O28: the table of the parameters, and the outcomes of CONFIGURE. -/
theorem configureStores : Obligations.ConfigureStores := by
  refine ⟨Param.ofId_iff, fun _ _ _ _ _ h => Param.inRange_iff h, Param.valueOf_eq, fun id v s hs hc => ⟨?_, ?_, ?_⟩⟩
  · exact fun h => hs.exec_host rfl (replyConfigure_of_unknown hc h)
  · intro p h out
    exact hs.exec_host rfl ((replyConfigure_of_known hc h).trans (by rw [out]; rfl))
  · intro p h inside
    refine ⟨_, hs.exec_host rfl ((replyConfigure_of_known hc h).trans (if_pos inside)), ?_, ?_, ?_, ?_, ?_, ?_, ?_⟩
    · change (s.store p _).cfg.value p = _
      rw [State.store_cfg, ConfigSet.value_put_self inside]
    · intro q hq
      change (s.store p _).cfg.value q = _
      rw [State.store_cfg, ConfigSet.value_put_of_ne hq]
    · exact fun n hn => State.store_channel_of_span hn _ s
    · exact fun n hlo hhi => State.store_channel_of_ne hlo hhi _ s
    · rintro rfl seen elapsed
      exact (State.store_fcu _ _ s).trans (if_pos ⟨rfl, seen, elapsed⟩)
    · intro not
      refine (State.store_fcu _ _ s).trans (if_neg ?_)
      rintro ⟨rfl, seen, elapsed⟩
      rcases not with not | not | not
      · exact not rfl
      · rw [not] at seen; cases seen
      · exact absurd not (Nat.not_lt.mpr elapsed)
    · exact congrArg (State.answered · .done []) (s.store_eq p (p.valueOf v))

/-! ### START -/

/-- What an entry into LISTEN makes of the drives (R9, R133, R162). -/
theorem State.listenDrives_eq (s : State) : s.listenDrives = { s with
    fe.mode := if s.sc.role = .plant then .frozen else s.fe.mode
    fe.holdingCount := if s.sc.role = .plant then 0 else s.fe.holdingCount
    vd := if s.sc.role = .customer ∧ s.vd.estimate = none then s.vd.beginSeek s.cfg else s.vd } := by
  unfold State.listenDrives
  split
  · next h => simp [h]
  · next h => simp [h, ValveDrive.seekIfUnknown]

theorem replyStart_of_config {s : State} (hc : s.sc.state = .config) :
    replyStart s = if s.cfg.relationsHold then (.ok, s.startStation) else (⟨.range, []⟩, s) :=
  takenIn_of_mem (by simp [hc]) _

/-- Settles O29: the relations of R6, and the entry into LISTEN. -/
theorem startEntersListen : Obligations.StartEntersListen := by
  intro s hs hc
  refine ⟨fun h => ?_, fun spans range low high => ?_⟩
  · have fails : ¬ s.cfg.relationsHold = true := fun hold => h (s.cfg.relationsHold_iff.mp hold)
    exact hs.exec_host rfl ((replyStart_of_config hc).trans (if_neg fails))
  · have hold := s.cfg.relationsHold_iff.mpr ⟨spans, range, low, high⟩
    refine (hs.exec_host (c := .start) rfl ((replyStart_of_config hc).trans (if_pos hold))).trans ?_
    rw [State.startStation, State.listenDrives_eq]
    rfl

/-! ### The runtime settings -/

/-- Settles O30: each setting is stored as its command clamps it. -/
theorem runtimeSettingsStored : Obligations.RuntimeSettingsStored := by
  refine ⟨fun v s hs hr => ?_, fun v s hs hr => ?_, fun v s hs hr => ?_⟩
  · rw [(by split <;> omega : (if 10000 < v.toNat then 10000 else v.toNat) = min 10000 v.toNat)]
    exact hs.exec_host (c := .setRequest v) rfl (if_pos hr)
  · have reply : replyOf (.setAvailable v) s = if v = 0 then (.ok, { s with sc.available := false })
        else if v = 1 then (.ok, { s with sc.available := true }) else (⟨.range, []⟩, s) := if_pos hr
    split_ifs at reply ⊢ <;> exact hs.exec_host rfl reply
  · rw [(by unfold clamp; split_ifs <;> rfl :
      (if v.toInt < 0 then 0 else if 5000 < v.toInt then 5000 else v.toInt.toNat) = (clamp 0 5000 v.toInt).toNat)]
    exact hs.exec_host (c := .setTarget v) rfl (if_pos hr)

end Sys2Proof.Machine
end

section
/-! The law of the fields of entries and waiting frames (R51, R65) through every step: a frame that the format check lets pass is
lawful, and what the table takes from it is its fields. -/

namespace Sys2Proof.Machine

/-- The entries and the waiting frames of a lawful table. -/
def PeerTable.Fits (p : PeerTable) : Prop := (∀ e ∈ p.entries, e.lawful) ∧ ∀ f ∈ p.queue, f.lawful

theorem State.entryLaw_iff {s : State} : s.entryLaw ↔ s.pt.Fits := .rfl

/-! ### Entries -/

theorem Entry.created_lawful {r : Report} (h : r.lawful) : (Entry.created r).lawful := by
  obtain ⟨-, -, output, margin, flow, deltaT, cap, weight, customer, plant⟩ := h
  exact ⟨output, margin, flow, deltaT, cap, weight, by simp [Entry.created], by simp [Entry.created], customer, plant⟩

/-- An entry refreshed by a report of its role has the fields of the report (R75). -/
theorem Entry.refreshed_lawful {e : Entry} {r : Report} (he : e.lawful) (h : r.lawful) (hr : e.role = r.role)
    (missed : Nat) : (e.refreshed r missed).lawful := by
  obtain ⟨-, -, -, -, -, -, -, present, -, -⟩ := he
  obtain ⟨-, -, output, margin, flow, deltaT, cap, weight, customer, plant⟩ := h
  exact ⟨output, margin, flow, deltaT, cap, weight, by simp [Entry.refreshed], present,
    fun hc => customer (hr ▸ hc), fun hp => plant (hr ▸ hp)⟩

theorem PeerTable.Fits.putEntry {p : PeerTable} (h : p.Fits) {e : Entry} (he : e.lawful) :
    PeerTable.Fits ⟨putEntry e p.entries, p.queue⟩ :=
  ⟨fun x hx => (mem_putEntry hx).elim (fun hx => hx ▸ he) (h.1 x), h.2⟩

/-- A report is applied (Table 4.2). -/
theorem State.applyReport_fits {r : Report} {s : State} (hr : r.lawful) (h : s.pt.Fits) : (s.applyReport r).pt.Fits := by
  cases he : s.pt.find r.source with
  | none =>
    rw [State.applyReport_of_create (by simp [he])]
    exact h.putEntry (Entry.created_lawful hr)
  | some e =>
    have known : e.lawful := h.1 e (PeerTable.find_mem he).1
    by_cases role : e.role = r.role
    · cases flag : r.flags.restarted with
      | true =>
        rw [State.applyReport_of_restarted he role flag]
        obtain ⟨h1, h2, h3, h4, h5, h6, -, h8, h9, h10⟩ := Entry.refreshed_lawful known hr role 0
        obtain ⟨-, -, -, -, -, -, gap, -⟩ := known
        exact h.putEntry ⟨h1, h2, h3, h4, h5, h6, gap, h8, h9, h10⟩
      | false =>
        rcases Nat.eq_zero_or_pos (r.sequence - e.lastSequence).toNat with h0 | h0
        · rw [State.applyReport_of_duplicate he role flag h0]; exact h
        · by_cases h127 : (r.sequence - e.lastSequence).toNat ≤ 127
          · rw [State.applyReport_of_ahead he role flag h0 h127]
            exact h.putEntry (Entry.refreshed_lawful known hr role _)
          · rw [State.applyReport_of_behind he role flag (by omega)]; exact h
    · rw [State.applyReport_of_create (by simp [he, role])]
      exact h.putEntry (Entry.created_lawful hr)

/-- A frame is applied (R72 to R77). -/
theorem State.applyFrame_fits {f : Frame} {s : State} (hf : f.lawful) (h : s.pt.Fits) : (s.applyFrame f).pt.Fits := by
  cases f with
  | report r => exact State.applyReport_fits hf h
  | notice n =>
    cases he : s.pt.find n.source with
    | none => rw [State.applyFrame, State.applyNotice_of_none he]; exact h
    | some e =>
      rw [State.applyFrame, State.applyNotice_of_some he]
      exact ⟨fun x hx => h.1 x (List.mem_of_mem_filter hx), h.2⟩

/-- One aging pass moves the age, the present-for count and the state alone (R78). -/
theorem PeerTable.Fits.passOver {p : PeerTable} (h : p.Fits) (limit : Nat) :
    PeerTable.Fits ⟨passOver limit p.entries, p.queue⟩ := by
  refine ⟨fun x hx => ?_, h.2⟩
  obtain ⟨e, he, hx⟩ := List.mem_filterMap.mp hx
  obtain ⟨-, hx⟩ := Option.ite_none_right_eq_some.mp hx
  cases hx
  obtain ⟨h1, h2, h3, h4, h5, h6, h7, -, h9, h10⟩ := h.1 e he
  exact ⟨h1, h2, h3, h4, h5, h6, h7, Nat.min_le_left _ _, h9, h10⟩

/-- A frame is offered to the queue (R69, R70). -/
theorem State.offer_fits {f : Frame} {s : State} (hf : f.lawful) (h : s.pt.Fits) : (s.offer f).pt.Fits := by
  by_cases hm : f.source ∈ s.pt.queue.map Frame.source
  · rw [State.offer_of_waiting hm]
    exact ⟨h.1, fun x hx => (mem_replaceInPlace hx).elim (fun hx => hx ▸ hf) (h.2 x)⟩
  · by_cases h8 : s.pt.queue.length < 8
    · rw [State.offer_of_room hm h8]
      refine ⟨h.1, fun x hx => ?_⟩
      rcases List.mem_append.mp hx with hx | hx
      · exact h.2 x hx
      · exact List.mem_singleton.mp hx ▸ hf
    · rw [State.offer_of_full hm (by omega)]
      exact h

/-- Opening the table applies the queue (R71). -/
theorem State.openTable_fits {s : State} (h : s.pt.Fits) : s.openTable.pt.Fits := by
  have run : ∀ (q : List Frame) (u : State), (∀ f ∈ q, f.lawful) → u.pt.Fits → (q.foldl State.applyFrame u).pt.Fits := by
    intro q
    induction q with
    | nil => exact fun _ _ hu => hu
    | cons f q ih =>
      intro u hq hu
      obtain ⟨hf, hq⟩ := List.forall_mem_cons.mp hq
      exact ih _ hq (State.applyFrame_fits hf hu)
  refine ⟨?_, by simp⟩
  rw [State.openTable, State.drain_pt_entries]
  exact (run s.pt.queue { s with cu.state := .opened } h.2 h).1

/-! ### The line -/

theorem State.TableStands.fits {s t : State} (k : s.TableStands t) (h : s.pt.Fits) : t.pt.Fits := k.pt ▸ h

theorem State.route_fits {f : Frame} {s : State} (hf : f.lawful) (h : s.pt.Fits) : (s.route f).pt.Fits := by
  unfold State.route
  split
  · exact State.applyFrame_fits hf h
  · exact State.offer_fits hf h

/-- A whole frame that passes both checks is lawful (R51). -/
theorem State.finishFrame_fits {s : State} (h : s.pt.Fits) (own : Bool) (cs : List Byte) : (s.finishFrame own cs).pt.Fits := by
  unfold State.finishFrame
  dsimp only
  split
  · exact h
  · split
    · exact h
    · exact h
    · next hf =>
      unfold State.arrive
      split
      · exact (State.conflict_stands _).fits h
      · exact State.route_fits (checkFrame_lawful hf) h

theorem State.character_fits {s : State} (h : s.pt.Fits) (c : Byte) : (s.character c).pt.Fits := by
  change (State.receive c { s with lu := s.lu.dominant (tailClocks c) }).pt.Fits
  unfold State.receive
  split
  · exact h
  · exact h
  · split <;> exact h
  · split
    · simpa [State.dropFrame] using h
    · split
      · exact State.finishFrame_fits (by exact h) _ _
      · exact h

/-! ### The cycle and the host commands -/

theorem State.agingPass_fits {s : State} (h : s.pt.Fits) : s.agingPass.pt.Fits := by
  rw [State.agingPass_pt]
  exact h.passOver _

theorem State.startComputation_fits {s : State} (h : s.pt.Fits) : s.startComputation.pt.Fits := by simpa using h

theorem State.boundary_fits {s : State} (h : s.pt.Fits) : s.boundary.pt.Fits := by
  unfold State.boundary
  split
  · exact h
  · exact h
  · have passed : (s.pass (s.cfg.cyclePeriod * msClocks - ‹Nat›)).pt.Fits := h
    unfold State.atBoundary
    split
    · exact State.startComputation_fits (State.agingPass_fits passed)
    · exact passed
    · exact passed
    · exact State.startComputation_fits (State.agingPass_fits (State.agingPass_fits passed))

theorem State.completion_fits {s : State} (h : s.pt.Fits) : s.completion.pt.Fits := by
  unfold State.completion
  split
  · next t ht =>
    obtain ⟨u, k, e⟩ := State.complete_stands t (s.pass (s.computationClocks - s.cu.timer.getD 0))
    rw [e]
    exact State.openTable_fits (k.fits h)
  all_goals exact h

theorem State.Serves.fits {s t : State} (m : s.Serves t) (h : s.pt.Fits) : t.pt.Fits := by
  cases m
  case stored p x _ _ =>
    obtain ⟨mu, fcu, e⟩ := s.store_frame p x
    rw [e]; exact h
  case started => exact (State.listenDrives_stands _).fits h
  case released => exact State.openTable_fits h
  case resumed => exact State.startComputation_fits (State.agingPass_fits h)
  case left hx => exact (State.leaveNetwork_stands (by rintro hc; simp [hc] at hx)).fits h
  case rejoined hq => exact (State.rejoinNetwork_stands (by simp [hq])).fits h
  case restarted => exact (State.listenDrives_stands _).fits ⟨by simp, by simp⟩
  all_goals exact h

theorem State.Moves.fits {s t : State} (m : s.Moves t) (h : s.pt.Fits) : t.pt.Fits := by
  cases m
  case conversion code => exact (s.conversion_stands code).fits h
  case flowCapture v => exact (s.flowCapture_stands v).fits h
  case flowTimeout => exact s.flowTimeout_stands.fits h
  case character c => exact State.character_fits h c
  case framingFault => exact s.framingFault_stands.fits h
  case idleLine => exact s.idleLine_stands.fits h
  case accessGap => exact s.accessGap_stands.fits h
  case collision => exact s.collision_stands.fits h
  case frameSent => exact s.frameSent_stands.fits h
  case boundary => exact State.boundary_fits h
  case completion => exact State.completion_fits h
  case pulseEnd => exact s.pulseEnd_stands.fits h
  case dwellEnd => exact s.dwellEnd_stands.fits h
  case seekEnd => exact s.seekEnd_stands.fits h
  case answered hu => exact (hu.fits h :)
  all_goals exact h

theorem State.hardReset_fits (s : State) : s.hardReset.pt.Fits := by
  have empty : PeerTable.Fits ⟨[], []⟩ := ⟨by simp, by simp⟩
  exact empty

/-- Settles O12: frames reach the table through the format check alone, and time moves ages and counts alone. -/
theorem stepKeepsEntryLaw : Obligations.StepKeepsEntryLaw := fun _ _ hs h =>
  step_keeps (P := State.entryLaw) (fun _ _ _ hq => hq) (fun s _ => State.entryLaw_iff.mpr s.hardReset_fits)
    (fun _ _ _ _ _ _ hs => hs) (fun _ _ _ hs hm => State.entryLaw_iff.mpr (hm.fits (State.entryLaw_iff.mp hs))) hs h

end Sys2Proof.Machine
end

section
/-! The life cycle of the station (R14 to R19, R162, R164, R165): RESEEK, LEAVE, REJOIN and RESTART, each with the exact state it
leaves. -/

namespace Sys2Proof.Machine

/-! ### End-seeks and stops (R153, R154, R162, R165) -/

/-- The estimate brought up to date for a pulse in flight, spelled out (R153). -/
theorem Pulse.reckon_eq_some {p : Pulse} {e : Nat} (h : p.start = some e) (cfg : ConfigSet) :
    p.reckon cfg p.ms = some (match p.direction with
      | .opening => min 10000 (e + p.timer / 8000 * 10 / cfg.travelTime)
      | .closing => e - p.timer / 8000 * 10 / cfg.travelTime) := by
  rw [Pulse.reckon, h]
  cases p.direction <;> rfl

theorem Pulse.reckon_eq_none {p : Pulse} (h : p.start = none) (cfg : ConfigSet) (ms : Nat) : p.reckon cfg ms = none := by
  rw [Pulse.reckon, h]
  rfl

/-- What a seek that is begun finds: the pulse in flight reckoned and ended (R162). -/
theorem ValveDrive.beginSeek_eq (cfg : ConfigSet) (v : ValveDrive) : v.beginSeek cfg =
    { (v.upToDate cfg).endAny with pending := none }.beginOrWait cfg
      ⟨seekToward (v.upToDate cfg).estimate, .seek, cfg.travelTime * 1250⟩ := rfl

theorem ValveDrive.endAny_upToDate_of_pulsing {v : ValveDrive} {p : Pulse} (h : v.drive = .pulsing p) (cfg : ConfigSet) :
    (v.upToDate cfg).endAny = ⟨p.reckon cfg p.ms, .idle, v.pending, p.direction.asEnd, 0⟩ := by
  rw [ValveDrive.endAny_of_pulsing (p := p) (by simpa using h), ValveDrive.upToDate_eq, h]

theorem ValveDrive.endAny_upToDate_of_not_pulsing {v : ValveDrive} (h : ∀ p, v.drive ≠ .pulsing p) (cfg : ConfigSet) :
    (v.upToDate cfg).endAny = v := by
  rw [ValveDrive.upToDate_of_not_pulsing h, ValveDrive.endAny_of_not_pulsing h]

/-- The end a seek is driven toward (R162). -/
theorem seekToward_some (e : Nat) : seekToward (some e) = if e < 5000 then .closing else .opening := by
  by_cases h : e < 5000
  · rw [if_pos h]; exact if_neg (by omega)
  · rw [if_neg h]; exact if_pos (by omega)

theorem replyReseek_of_customer {s : State} (hr : s.sc.role = .customer) (hc : s.sc.state ≠ .config) :
    replyReseek s = if s.vd.seeking then turnedAway .retry s else (.ok, { s with vd := s.vd.beginSeek s.cfg }) := by
  rw [replyReseek, boundTo_of_role hr, takenIn_of_mem (by simpa using hc)]

/-- Settles O35: the seek that is begun, and RESEEK. -/
theorem reseekBeginsSeek : Obligations.ReseekBeginsSeek := by
  refine ⟨fun s hs hr hc => ⟨fun h => ?_, fun h => ?_⟩, fun cfg v => ⟨fun p hp => ?_, fun hp => ?_, ?_, ?_⟩⟩
  · exact hs.exec_host (c := .reseek) rfl ((replyReseek_of_customer hr hc).trans (if_pos h))
  · exact hs.exec_host (c := .reseek) rfl ((replyReseek_of_customer hr hc).trans (if_neg (by simp [h])))
  · simp only [ValveDrive.beginSeek_eq, ValveDrive.endAny_upToDate_of_pulsing hp, ValveDrive.beginOrWait_estimate,
      ValveDrive.beginOrWait_lastEnd, ValveDrive.beginOrWait_dwellTimer, and_self, and_true]
    exact ⟨fun e he => Pulse.reckon_eq_some he cfg, fun he => Pulse.reckon_eq_none he cfg _⟩
  · simp only [ValveDrive.beginSeek_eq, ValveDrive.endAny_upToDate_of_not_pulsing hp, ValveDrive.beginOrWait_estimate,
      ValveDrive.beginOrWait_lastEnd, ValveDrive.beginOrWait_dwellTimer, and_self]
  · rw [ValveDrive.beginSeek_eq, ValveDrive.beginOrWait_pending]
  · intro d hd
    obtain rfl : d = seekToward (v.beginSeek cfg).estimate := by
      rw [hd]
      cases (v.beginSeek cfg).estimate with
      | none => rfl
      | some e => exact (seekToward_some e).symm
    simp only [ValveDrive.beginSeek_eq, ValveDrive.beginOrWait_estimate, ValveDrive.beginOrWait_lastEnd,
      ValveDrive.beginOrWait_dwellTimer, ValveDrive.endAny_estimate]
    rw [ValveDrive.beginOrWait_eq]
    rfl

/-- A stopped valve drive: what a cut pulse leaves, and nothing waiting or pending (R165). -/
theorem ValveDrive.stop_spelled (cfg : ConfigSet) (v : ValveDrive) :
    (v.stop cfg).drive = .idle ∧ (v.stop cfg).pending = none ∧
    ((∀ p, v.drive ≠ .pulsing p) → (v.stop cfg).estimate = v.estimate ∧ (v.stop cfg).lastEnd = v.lastEnd ∧
      (v.stop cfg).dwellTimer = v.dwellTimer) ∧
    (∀ p, v.drive = .pulsing p →
      (v.stop cfg).lastEnd = p.direction.asEnd ∧ (v.stop cfg).dwellTimer = 0 ∧
      (p.start = none → (v.stop cfg).estimate = none) ∧
      (∀ e, p.start = some e → (v.stop cfg).estimate = some (match p.direction with
        | .opening => min 10000 (e + p.timer / 8000 * 10 / cfg.travelTime)
        | .closing => e - p.timer / 8000 * 10 / cfg.travelTime))) := by
  refine ⟨rfl, rfl, fun hp => ?_, fun p hp => ?_⟩
  · simp only [ValveDrive.stop, ValveDrive.endAny_upToDate_of_not_pulsing hp, and_self]
  · simp only [ValveDrive.stop, ValveDrive.endAny_upToDate_of_pulsing hp, true_and]
    exact ⟨fun he => Pulse.reckon_eq_none he cfg _, fun e he => Pulse.reckon_eq_some he cfg⟩

/-! ### Withdrawing and placing, whole (R14, R63) -/

/-- A withdrawn report slot reaches the slot, the transmitter and SUPERSEDED. -/
theorem State.withdraw_report_eq (s : State) : s.withdraw .report = { s with
    lu.reportSlot := none
    lu.transmitter := if s.lu.transmitter.serving .report then servedBy s.sc.address s.lu.noticeSlot none
      else s.lu.transmitter
    sp.counters := (s.withdraw .report).sp.counters } := by
  unfold State.withdraw
  dsimp only
  rw [State.bumpIf_eq, State.bumpIf_eq]
  split
  · rw [LinkUnit.serve_eq]; rfl
  · rfl

/-- A withdrawn notice slot reaches the slot and the transmitter. -/
theorem State.withdraw_notice_eq (s : State) : s.withdraw .notice = { s with
    lu.noticeSlot := none
    lu.transmitter := if s.lu.transmitter.serving .notice then servedBy s.sc.address none s.lu.reportSlot
      else s.lu.transmitter } := by
  unfold State.withdraw
  dsimp only
  split
  · rw [LinkUnit.serve_eq]; rfl
  · rfl

/-- A placed notice reaches the slot, and a transmitter that was IDLE. -/
theorem State.placeNotice_eq (s : State) : s.placeNotice = { s with
    lu.noticeSlot := some ⟨.notice ⟨s.sc.address, s.sc.role, s.lu.sequence⟩, 0⟩
    lu.transmitter := s.placeNotice.lu.transmitter } := by
  unfold State.placeNotice
  dsimp only
  split
  · rw [LinkUnit.serve_eq]
  · rfl
  · rfl

theorem State.placeNotice_of_idle {s : State} (h : s.lu.transmitter = .idle) : s.placeNotice.lu.transmitter =
    servedBy s.sc.address (some ⟨.notice ⟨s.sc.address, s.sc.role, s.lu.sequence⟩, 0⟩) s.lu.reportSlot := by
  simp [State.placeNotice, h]

theorem State.placeNotice_of_busy {s : State} (h : s.lu.transmitter ≠ .idle) :
    s.placeNotice.lu.transmitter = s.lu.transmitter := by
  simp only [State.placeNotice]
  split
  · exact absurd ‹_› h
  · rfl
  · rfl

theorem servedBy_some_serving_report (a : Nat) (o : Outgoing) (p : Option Outgoing) :
    (servedBy a (some o) p).serving .report = false := rfl

/-! ### LEAVE (R14 to R16) -/

/-- What an entry into QUIET makes of the drives (R16, R165). -/
theorem State.quietDrives_eq (s : State) : s.quietDrives = { s with
    fe.mode := if s.sc.role = .plant then modeOnQuiet s.fe.speed else s.fe.mode
    vd := if s.sc.role = .customer then s.vd.stop s.cfg else s.vd } := by
  unfold State.quietDrives
  split <;> next h => simp [h]

/-- What LEAVE leaves in the Link Unit: the report withdrawn, and from ACTIVE a notice placed. -/
def State.leftLink (s : State) : LinkUnit :=
  if s.sc.state = .active then (s.withdraw .report).placeNotice.lu else (s.withdraw .report).lu

theorem State.leftLink_of_active {s : State} (h : s.sc.state = .active) :
    s.leftLink = (s.withdraw .report).placeNotice.lu := if_pos h

theorem State.leftLink_of_ne {s : State} (h : s.sc.state ≠ .active) : s.leftLink = (s.withdraw .report).lu := if_neg h

theorem State.leaveNetwork_eq (s : State) : s.leaveNetwork = { s with
    sc := { s.sc with state := .quiet, listenCount := 0, muteCount := 0 }
    lu := s.leftLink
    fe.mode := if s.sc.role = .plant then modeOnQuiet s.fe.speed else s.fe.mode
    vd := if s.sc.role = .customer then s.vd.stop s.cfg else s.vd
    sp.counters := (s.withdraw .report).sp.counters } := by
  unfold State.leaveNetwork
  dsimp only
  rw [State.quietDrives_eq]
  by_cases h : s.sc.state = .active
  · rw [State.leftLink_of_active h, if_pos (by simp [h]), State.placeNotice_eq, State.withdraw_report_eq]
  · rw [State.leftLink_of_ne h, if_neg (by simpa using h), State.withdraw_report_eq]

/-- LEAVE reaches of the Link Unit the slots and the transmitter. -/
theorem State.leftLink_eq (s : State) : s.leftLink = { s.lu with
    reportSlot := none, noticeSlot := s.leftLink.noticeSlot, transmitter := s.leftLink.transmitter } := by
  by_cases h : s.sc.state = .active
  · rw [State.leftLink_of_active h, State.placeNotice_eq, State.withdraw_report_eq]
  · rw [State.leftLink_of_ne h, State.withdraw_report_eq]

/-- No report is being served once LEAVE is taken (R14). -/
theorem State.leftLink_serving (s : State) : s.leftLink.transmitter.serving .report = false := by
  have ⟨_, withdrawn⟩ := s.withdraw_serving .report
  by_cases h : s.sc.state = .active
  · rw [State.leftLink_of_active h]
    by_cases idle : (s.withdraw .report).lu.transmitter = .idle
    · rw [State.placeNotice_of_idle idle]; rfl
    · rw [State.placeNotice_of_busy idle]; exact withdrawn
  · rw [State.leftLink_of_ne h]; exact withdrawn

/-- From ACTIVE a notice waits; a transmitter that had nothing else to serve serves it (R63). -/
theorem State.leftLink_active {s : State} (h : s.sc.state = .active) :
    s.leftLink.noticeSlot = some ⟨.notice ⟨s.sc.address, s.sc.role, s.lu.sequence⟩, 0⟩ ∧
    (s.lu.noticeSlot = none → (s.lu.transmitter = .idle ∨ s.lu.transmitter.serving .report = true) →
      s.leftLink.transmitter = servedBy s.sc.address s.leftLink.noticeSlot none) := by
  have notice : s.leftLink.noticeSlot = some ⟨.notice ⟨s.sc.address, s.sc.role, s.lu.sequence⟩, 0⟩ := by
    rw [State.leftLink_of_active h, State.placeNotice_eq, State.withdraw_report_eq]
  refine ⟨notice, fun empty free => ?_⟩
  have idle : (s.withdraw .report).lu.transmitter = .idle := by
    rw [State.withdraw_report_eq, empty]
    rcases free with free | free
    · simp [free, Transmitter.serving]
    · rw [if_pos free]; rfl
  rw [notice, State.leftLink_of_active h, State.placeNotice_of_idle idle, State.withdraw_report_eq]

/-- Settles O36: what a stop does to the valve drive, and the state that LEAVE leaves. -/
theorem leaveTaken : Obligations.LeaveTaken := by
  refine ⟨ValveDrive.stop_spelled, fun s hs hx => ⟨_, hs.exec_host (c := .leave) rfl (if_pos hx), ?_⟩⟩
  rw [State.leaveNetwork_eq]
  refine ⟨rfl, ?_, s.leftLink_serving, fun h => State.leftLink_active h, fun h => ?_,
    fun k => (s.withdraw_count .report k).trans (by simp), fun hr => ?_, fun hr => ?_, ?_⟩
  · change s.leftLink.reportSlot = none
    rw [State.leftLink_eq]
  · change s.leftLink.noticeSlot = _ ∧ s.leftLink.transmitter = _
    rw [State.leftLink_of_ne h, State.withdraw_report_eq]
    exact ⟨rfl, rfl⟩
  · simp [State.answered, hr, modeOnQuiet]
  · simp [State.answered, hr]
  · obtain ⟨n, x, e⟩ : ∃ n x, s.leftLink = { s.lu with reportSlot := none, noticeSlot := n, transmitter := x } :=
      ⟨_, _, s.leftLink_eq⟩
    rw [e]
    rfl

/-! ### REJOIN and RESTART (R18, R19) -/

/-- What a rejoin makes of the drives (R18, R165). -/
theorem State.rejoinDrives_eq (s : State) : s.rejoinDrives = { s with
    fe.mode := if s.sc.role = .plant then .frozen else s.fe.mode
    fe.holdingCount := if s.sc.role = .plant then 0 else s.fe.holdingCount
    vd := if s.sc.role = .customer ∧ s.vd.seeking = false then s.vd.seekIfUnknown s.cfg else s.vd } := by
  unfold State.rejoinDrives
  split
  · next h => simp [h]
  · next h =>
    cases s.vd.seeking <;> simp [h]

/-- An entry into LISTEN seeks exactly with an UNKNOWN estimate. -/
theorem ValveDrive.seekIfUnknown_of_some {v : ValveDrive} (h : v.estimate.isSome = true) (cfg : ConfigSet) :
    v.seekIfUnknown cfg = v := by
  obtain ⟨e, he⟩ := Option.isSome_iff_exists.mp h
  simp [ValveDrive.seekIfUnknown, he]

theorem ValveDrive.seekIfUnknown_of_none {v : ValveDrive} (h : v.estimate = none) (cfg : ConfigSet) :
    v.seekIfUnknown cfg = v.beginSeek cfg := by
  simp [ValveDrive.seekIfUnknown, h]

theorem State.rejoinNetwork_eq (s : State) : s.rejoinNetwork = { s with
    sc.state := .listen
    sc.listenCount := 2
    lu.noticeSlot := none
    lu.transmitter := if s.lu.transmitter.serving .notice then servedBy s.sc.address none s.lu.reportSlot
      else s.lu.transmitter
    fe.mode := if s.sc.role = .plant then .frozen else s.fe.mode
    fe.holdingCount := if s.sc.role = .plant then 0 else s.fe.holdingCount
    vd := if s.sc.role = .customer ∧ s.vd.seeking = false then s.vd.seekIfUnknown s.cfg else s.vd } := by
  unfold State.rejoinNetwork
  dsimp only
  rw [State.rejoinDrives_eq, State.withdraw_notice_eq]

/-- Settles O37: the state that REJOIN leaves. -/
theorem rejoinTaken : Obligations.RejoinTaken := by
  intro s hs hx
  refine ⟨_, hs.exec_host (c := .rejoin) rfl (if_pos (by simp [hx])), ?_⟩
  rw [State.rejoinNetwork_eq]
  refine ⟨rfl, fun hr => by simp [State.answered, hr], fun hr => ⟨by simp [State.answered, hr], fun known => ?_,
    fun unknown still => ?_, fun seeking => by simp [State.answered, seeking]⟩, rfl⟩
  · simp [State.answered, ValveDrive.seekIfUnknown_of_some known]
  · simp [State.answered, hr, still, ValveDrive.seekIfUnknown_of_none unknown]

/-- Both slots withdrawn: nothing waits and nothing is in flight (R19). -/
theorem State.withdraw_both_eq (s : State) : (s.withdraw .report).withdraw .notice = { s with
    lu.reportSlot := none
    lu.noticeSlot := none
    lu.transmitter := .idle
    sp.counters := (s.withdraw .report).sp.counters } := by
  have idle := s.withdraw_both_silent.idle
  rw [State.withdraw_notice_eq] at idle ⊢
  rw [show (if (s.withdraw .report).lu.transmitter.serving .notice = true then
    servedBy (s.withdraw .report).sc.address none (s.withdraw .report).lu.reportSlot
    else (s.withdraw .report).lu.transmitter) = .idle from idle, State.withdraw_report_eq]

/-- A restarted valve drive of a customer is stopped, and seeks if its estimate is UNKNOWN (R19, R165). -/
theorem State.softRestart_eq (s : State) : s.softRestart = { s with
    sc := { s.sc with state := .listen, listenCount := 2, muteCount := 0, firstReport := false }
    lu := { s.lu with reportSlot := none, noticeSlot := none, transmitter := .idle, sequence := 0 }
    pt := ⟨[], []⟩
    cu := ⟨some 0, .opened⟩
    fe.cap := 10000
    fe.mode := if s.sc.role = .plant then .frozen else s.fe.mode
    fe.holdingCount := if s.sc.role = .plant then 0 else s.fe.holdingCount
    vd := if s.sc.role = .customer then (s.vd.stop s.cfg).seekIfUnknown s.cfg else s.vd
    sp.counters := (s.withdraw .report).sp.counters } := by
  unfold State.softRestart
  dsimp only
  rw [State.withdraw_both_eq]
  unfold State.listenDrives
  cases s.sc.role <;> simp

/-- Settles O38: the state that RESTART leaves. -/
theorem restartTaken : Obligations.RestartTaken := by
  intro s hs hx
  refine ⟨_, hs.exec_host (c := .restart) rfl (if_pos (by simpa using hx)), ?_⟩
  rw [State.softRestart_eq]
  refine ⟨fun hr => by simp [State.answered, hr], fun hr => ⟨by simp [State.answered, hr], by simp [State.answered, hr], ?_⟩,
    fun k => (s.withdraw_count .report k).trans (by simp), rfl⟩
  simp only [State.answered, hr, if_true, ValveDrive.seekIfUnknown, Option.isNone_iff_eq_none]

end Sys2Proof.Machine
end

section
/-! Field measurement (R21 to R37): a conversion, a flow capture, a flow timeout, and what a computation takes in. -/

namespace Sys2Proof.Machine

/-! ### A conversion (R21 to R29, Table 2.5) -/

theorem scalingCode_of_fault {code : BitVec 12} (h : code.toNat < 576 ∨ 3360 < code.toNat) : scalingCode code = none := by
  unfold scalingCode
  dsimp only
  rcases h with h | h
  · rw [if_pos h]
  · rw [if_neg (by omega), if_neg (by omega), if_neg (by omega), if_neg (by omega)]

/-- A valid code is limited to the codes of the span (Table 2.2). -/
theorem scalingCode_of_valid {code : BitVec 12} (h1 : 576 ≤ code.toNat) (h2 : code.toNat ≤ 3360) :
    scalingCode code = some (max 640 (min 3200 code.toNat)) := by
  unfold scalingCode
  dsimp only
  rw [if_neg (by omega)]
  by_cases low : code.toNat < 640
  · rw [if_pos low]; congr 1; omega
  · rw [if_neg low]
    by_cases high : code.toNat ≤ 3200
    · rw [if_pos high]; congr 1; omega
    · rw [if_neg high, if_pos h2]; congr 1; omega

/-- The sample of a code (R23). -/
theorem sampleOf_eq (lo hi : Int) (k : Nat) :
    sampleOf lo hi k = max (-32768) (min 32767 (lo + (2 * (((k : Int) - 640) * (hi - lo)) + 2560) / 5120)) := rfl

/-- Only a channel in FAULT_HOLD enters ABSENT (R28). -/
theorem Channel.enters_absent {c : Channel} {span : Span} {shift : Nat} {code : BitVec 12} (h : c.state ≠ .absent)
    (ha : (c.convert span shift code).state = .absent) : c.state = .faultHold := by
  cases hs : c.state with
  | faultHold => rfl
  | absent => exact absurd hs h
  | _ =>
    cases hk : scalingCode code <;> simp [Channel.convert, hk, hs] at ha

/-- A conversion sets SENSOR_ABSENT where its channel enters ABSENT from FAULT_HOLD, and no other latch (R28). -/
theorem State.conversion_latched (code : BitVec 12) (s : State) {b after : Channel}
    (hb : b = s.mu.channels.get s.mu.rotation)
    (ha : after = b.convert (s.cfg.span.get s.mu.rotation) s.cfg.filterShift code) (l : Latch) :
    (s.conversion code).latched l = (s.latched l || (l == Latch.sensorAbsent && b.state == ChannelState.faultHold &&
      after.state == ChannelState.absent)) := by
  have latched : (s.conversion code).latched l =
      (s.latched l || ((b.state != .absent && after.state == .absent) && l == .sensorAbsent)) := by
    subst hb ha
    exact State.latched_setLatchIf _ _ _ _
  have enters : (b.state != .absent && after.state == ChannelState.absent) =
      (b.state == .faultHold && after.state == ChannelState.absent) := by
    by_cases absent : after.state = .absent
    · by_cases hs : b.state = .absent
      · simp [hs]
      · simp [absent, Channel.enters_absent hs (ha ▸ absent)]
    · rw [beq_eq_false_iff_ne.mpr absent, Bool.and_false, Bool.and_false]
  rw [latched, enters, Bool.and_comm, Bool.and_assoc]

/-- Settles O39: the rows of Table 2.5, and what a conversion leaves as it is. -/
theorem conversionCompletes : Obligations.ConversionCompletes := by
  rintro code s b sample running rfl rfl
  refine ⟨_, (s.mu.channels.get s.mu.rotation).convert (s.cfg.span.get s.mu.rotation) s.cfg.filterShift code,
    State.event_of_running running _, State.setLatchIf_eq _ _ _, s.conversion_latched code rfl rfl, fun fault => ?_,
    fun low high => ?_⟩
  · have hk := scalingCode_of_fault fault
    refine ⟨fun h => ?_, fun h => ?_, fun h short => ?_, fun h long => ?_, fun h => ?_⟩ <;>
      simp only [Channel.convert, hk, h]
    · exact if_pos short
    · exact if_neg (by omega)
  · have hk := scalingCode_of_valid low high
    refine ⟨fun h => ?_, fun f h hf => ?_, fun h short => ?_, fun h short => ?_, fun h long => ?_⟩
    · simp only [Channel.convert, hk, h, sampleOf_eq]
    · simp only [Channel.convert, hk, h, hf, sampleOf_eq, filteredBy, filterStep, sat16, asr]
    · simp only [Channel.convert, hk, h, if_pos short]
    · simp only [Channel.convert, hk, h, if_pos short]
    · rcases h with h | h <;> simp only [Channel.convert, hk, h, if_neg (Nat.not_lt.mpr long), sampleOf_eq]

/-! ### A flow capture (R33 to R36) -/

theorem FlowCaptureUnit.capture_of_unseen {f : FlowCaptureUnit} (h : f.seenEdge = false) (vp : Nat) :
    f.capture vp = ({ f with lastCapture := some f.counter, seenEdge := true }, false) := by
  simp [FlowCaptureUnit.capture, h]

theorem FlowCaptureUnit.capture_of_noise {f : FlowCaptureUnit} (h : f.seenEdge = true) (he : f.elapsed < 200) (vp : Nat) :
    f.capture vp = (f, true) := by
  simp [FlowCaptureUnit.capture, h, he]

theorem FlowCaptureUnit.capture_of_period {f : FlowCaptureUnit} (h : f.seenEdge = true) (he : 200 ≤ f.elapsed) (vp : Nat) :
    f.capture vp = ({ f with
      lastFlow := min 65535 (flowOf vp f.elapsed), lastPeriod := some f.elapsed, lastCapture := some f.counter }, false) := by
  simp [FlowCaptureUnit.capture, h, Nat.not_lt.mpr he]

/-- The Flow Capture Unit with the high level accepted (R33). -/
def FlowCaptureUnit.high (f : FlowCaptureUnit) : FlowCaptureUnit := { f with accepted := true, previous := true }

/-- An accepted rising edge: time passes to the capture, a timeout that has come by then is taken, and the capture is made
(R33, R36). -/
theorem State.flowCapture_of_low {s : State} (h : s.fcu.accepted = false) (v : Word32) {q : State}
    (hq : q = (s.pass (s.fcu.clocksUntil v)).flowTimeoutIf
      (decide (s.cfg.timeoutMicros < s.fcu.elapsed + s.fcu.microsUntil v))) :
    s.flowCapture v =
      { q with fcu := (q.fcu.high.capture s.cfg.flowVp).1 }.bumpIf (q.fcu.high.capture s.cfg.flowVp).2 .flowNoise := by
  have low : q.fcu.accepted = false := by
    rw [hq]
    unfold State.flowTimeoutIf
    split <;> exact h
  unfold State.flowCapture
  rw [if_neg (by simp [h])]
  dsimp only
  rw [← hq, FlowCaptureUnit.sample_high_twice low]
  rw [(by rw [hq, State.flowTimeoutIf_cfg]; rfl : q.cfg = s.cfg)]
  rfl

theorem State.flowTimeout_of_seen {s : State} (h : s.fcu.seenEdge = true) : s.flowTimeout =
    { s.pass ((s.cfg.timeoutMicros - s.fcu.elapsed) * 8 - s.fcu.fraction) with
      fcu := (s.fcu.pass ((s.cfg.timeoutMicros - s.fcu.elapsed) * 8 - s.fcu.fraction)).timedOut } := by
  unfold State.flowTimeout
  rw [if_pos h]
  rfl

/-- Time that passes to a moment some microseconds ahead moves the counter by these (R32). -/
theorem FlowCaptureUnit.counter_after_micros {f : FlowCaptureUnit} (hf : f.fraction < 8) (n : Nat) :
    (f.pass (n * 8 - f.fraction)).counter = f.counter + BitVec.ofNat 32 n := by
  have : (f.fraction + (n * 8 - f.fraction)) / 8 = n := by omega
  simp only [FlowCaptureUnit.pass, usClocks, this]

/-- An accepted rising edge at a counter value (R33 to R36). -/
theorem State.flowCapture_outcomes {v : Word32} {s p : State} (frac : s.fcu.fraction < 8)
    (hp : p = s.pass ((v - s.fcu.counter).toNat * 8 - s.fcu.fraction)) (low : s.fcu.accepted = false) :
    p.fcu.counter = v ∧
    (s.fcu.seenEdge = false → s.flowCapture v =
      { p with fcu := { p.fcu with accepted := true, previous := true, lastCapture := some v, seenEdge := true } }) ∧
    (∀ l, s.fcu.seenEdge = true → s.fcu.lastCapture = some l →
      (s.cfg.timeoutMicros < (s.fcu.counter - l).toNat + (v - s.fcu.counter).toNat → s.flowCapture v =
        { p with fcu := { p.fcu with
            accepted := true, previous := true, lastCapture := some v, lastPeriod := none, lastFlow := 0 } }) ∧
      ((s.fcu.counter - l).toNat + (v - s.fcu.counter).toNat ≤ s.cfg.timeoutMicros → (v - l).toNat < 200 →
        s.flowCapture v = { p with fcu := { p.fcu with accepted := true, previous := true } }.bump .flowNoise) ∧
      ((s.fcu.counter - l).toNat + (v - s.fcu.counter).toNat ≤ s.cfg.timeoutMicros → 200 ≤ (v - l).toNat →
        s.flowCapture v = { p with fcu := { p.fcu with
            accepted := true, previous := true, lastCapture := some v, lastPeriod := some (v - l).toNat
            lastFlow := min 65535 (flowOf s.cfg.flowVp (v - l).toNat) } })) := by
  have counter : p.fcu.counter = v := by rw [hp]; exact FlowCaptureUnit.pass_clocksUntil_counter v frac
  have wait : s.pass (s.fcu.clocksUntil v) = p := hp.symm
  have seenEdge : p.fcu.seenEdge = s.fcu.seenEdge := by rw [hp]; rfl
  refine ⟨counter, fun unseen => ?_, fun l seen last => ?_⟩
  · have still : p = (s.pass (s.fcu.clocksUntil v)).flowTimeoutIf
        (decide (s.cfg.timeoutMicros < s.fcu.elapsed + s.fcu.microsUntil v)) := by
      rw [wait, State.flowTimeoutIf_of_unseen (seenEdge.trans unseen)]
    rw [State.flowCapture_of_low low v still,
      FlowCaptureUnit.capture_of_unseen (f := p.fcu.high) (seenEdge.trans unseen), ← counter]
    rfl
  · have before : s.fcu.elapsed = (s.fcu.counter - l).toNat := by simp [FlowCaptureUnit.elapsed, last]
    have after : p.fcu.high.elapsed = (v - l).toNat := by
      have : p.fcu.lastCapture = some l := by rw [hp]; exact last
      simp [FlowCaptureUnit.elapsed, FlowCaptureUnit.high, this, counter]
    have until_eq : s.fcu.microsUntil v = (v - s.fcu.counter).toNat := rfl
    refine ⟨fun late => ?_, fun intime short => ?_, fun intime long => ?_⟩
    · have timed : { p with fcu := p.fcu.timedOut } = (s.pass (s.fcu.clocksUntil v)).flowTimeoutIf
          (decide (s.cfg.timeoutMicros < s.fcu.elapsed + s.fcu.microsUntil v)) := by
        rw [wait, before, until_eq, decide_eq_true late, State.flowTimeoutIf_true (seenEdge.trans seen)]
      rw [State.flowCapture_of_low low v timed, FlowCaptureUnit.capture_of_unseen rfl]
      simp only [FlowCaptureUnit.timedOut, FlowCaptureUnit.high, counter, seenEdge, seen]
      rfl
    all_goals
      have still : p = (s.pass (s.fcu.clocksUntil v)).flowTimeoutIf
          (decide (s.cfg.timeoutMicros < s.fcu.elapsed + s.fcu.microsUntil v)) := by
        rw [wait, before, until_eq, decide_eq_false (Nat.not_lt.mpr intime), State.flowTimeoutIf_false]
      rw [State.flowCapture_of_low low v still]
    · rw [FlowCaptureUnit.capture_of_noise (f := p.fcu.high) (seenEdge.trans seen) (after ▸ short)]
      rfl
    · rw [FlowCaptureUnit.capture_of_period (f := p.fcu.high) (seenEdge.trans seen) (after ▸ long), after]
      simp only [FlowCaptureUnit.high, counter]
      rfl

/-- The timeout comes at its moment, which no wrap of the counter shortens (R36). -/
theorem State.flowTimeout_at_moment {s : State} {l : Word32} (seen : s.fcu.seenEdge = true)
    (last : s.fcu.lastCapture = some l) (frac : s.fcu.fraction < 8) (limit : s.cfg.timeoutMicros ≤ 60000000)
    (intime : (s.fcu.counter - l).toNat ≤ s.cfg.timeoutMicros) :
    ∃ d, s.flowTimeout = { s.pass d with fcu := (s.pass d).fcu.timedOut } ∧
      ((s.pass d).fcu.counter - l).toNat = s.cfg.timeoutMicros := by
  refine ⟨_, State.flowTimeout_of_seen seen, ?_⟩
  have elapsed : s.fcu.elapsed = (s.fcu.counter - l).toNat := by simp [FlowCaptureUnit.elapsed, last]
  have moved : ∀ n : Nat, s.fcu.counter + BitVec.ofNat 32 n - l = (s.fcu.counter - l) + BitVec.ofNat 32 n := by
    intro n
    ring
  change ((s.fcu.pass _).counter - l).toNat = _
  rw [FlowCaptureUnit.counter_after_micros frac, elapsed, moved, BitVec.toNat_add, BitVec.toNat_ofNat]
  omega

/-- Settles O40: the outcomes of a capture, the low level, and the timeout. -/
theorem flowCaptured : Obligations.FlowCaptured := by
  refine ⟨fun v s p running frac hp => ⟨fun high => ?_, fun low => ?_⟩, fun s running => ?_, fun s running unseen => ?_,
    fun s l running seen last frac limit intime => ?_, fun s l running seen last late => ?_⟩
  · refine (State.event_of_running running _).trans ?_
    rw [State.flowCapture, if_pos high]
  · have capture : exec (.flowCapture v) s = .next (s.flowCapture v) := State.event_of_running running _
    obtain ⟨counter, first, again⟩ := State.flowCapture_outcomes frac hp low
    rw [capture]
    refine ⟨counter, fun unseen => congrArg _ (first unseen), fun l seen last => ?_⟩
    obtain ⟨late, noise, period⟩ := again l seen last
    refine ⟨fun h => congrArg _ (late h), fun h short => ⟨_, rfl, fun k => ?_, ?_⟩, fun h long => congrArg _ (period h long)⟩
    · have same : s.count k = p.count k := by rw [hp]; rfl
      rw [noise h short, State.count_bump, same]
      rfl
    · rw [noise h short]; rfl
  · refine (State.event_of_running running _).trans ?_
    rw [State.flowinLow, FlowCaptureUnit.sample_low_twice]
  · refine (State.event_of_running running _).trans ?_
    rw [State.flowTimeout, if_neg (by simp [unseen])]
  · obtain ⟨d, timeout, moment⟩ := State.flowTimeout_at_moment seen last frac (by
      rw [ConfigSet.timeoutMicros]; omega) intime
    exact ⟨d, (State.event_of_running running _).trans (congrArg _ timeout), moment⟩
  · refine (State.event_of_running running _).trans ?_
    have elapsed : s.fcu.elapsed = (s.fcu.counter - l).toNat := by simp [FlowCaptureUnit.elapsed, last]
    rw [State.flowTimeout_of_seen seen, (by rw [elapsed, ConfigSet.timeoutMicros]; omega :
      (s.cfg.timeoutMicros - s.fcu.elapsed) * 8 - s.fcu.fraction = 0)]
    rfl

/-! ### What a computation takes in (R30, R37, R91) -/

theorem Channel.value_eq (c : Channel) :
    c.value = if c.state = .valid ∨ c.state = .faultHold then c.filtered else none := by
  unfold Channel.value
  split <;> simp [*]

/-- The rows of R37 from the top down, by the elapsed time. -/
theorem State.flowGiven_cases (s : State) :
    (s.cfg.flowVp = 0 → s.flowGiven = none) ∧
    (s.cfg.flowVp ≠ 0 →
      (s.fcu.seenEdge = false ∨ s.fcu.lastPeriod = none ∨ s.cfg.timeoutMicros ≤ s.fcu.elapsed) →
      s.flowGiven = some 0) ∧
    ∀ period, s.cfg.flowVp ≠ 0 → s.fcu.seenEdge = true → s.fcu.lastPeriod = some period →
      s.fcu.elapsed < s.cfg.timeoutMicros →
      s.flowGiven = some (if period < s.fcu.elapsed then min s.fcu.lastFlow (flowOf s.cfg.flowVp s.fcu.elapsed)
        else s.fcu.lastFlow) := by
  refine ⟨fun h => if_pos h, fun hvp h => ?_, fun period hvp seen hp he => ?_⟩
  · unfold State.flowGiven
    rw [if_neg hvp]
    cases hs : s.fcu.seenEdge with
    | false => rfl
    | true =>
      rw [if_neg (by simp)]
      cases hp : s.fcu.lastPeriod with
      | none => rfl
      | some period =>
        rcases h with h | h | h
        · rw [hs] at h; cases h
        · rw [hp] at h; cases h
        · dsimp only
          rw [if_pos h]
  · unfold State.flowGiven
    rw [if_neg hvp, seen, hp, if_neg (by simp)]
    dsimp only
    rw [if_neg (Nat.not_le.mpr he), apply_ite some]

/-- Settles O41: the rows of R37, and the rest as it stands. -/
theorem computationTakesIn : Obligations.ComputationTakesIn := by
  rintro s k e rfl rfl
  obtain ⟨idle, zero, given⟩ := s.flowGiven_cases
  obtain ⟨limit, hlimit⟩ : ∃ n, n = s.cfg.timeoutMicros := ⟨_, rfl⟩
  rw [← hlimit] at zero
  simp only [← hlimit] at given
  rw [ConfigSet.timeoutMicros] at hlimit
  rw [← hlimit]
  refine ⟨fun n => ⟨Four.get_map _ _ _, (Four.get_map _ _ _).trans (Channel.value_eq _)⟩, idle, zero, given, ?_, rfl, rfl,
    rfl, rfl, rfl, rfl, rfl, rfl, rfl, rfl⟩
  have elapsed : s.fcu.elapsed = (s.fcu.counter - s.fcu.lastCapture.getD 0).toNat := rfl
  simp [State.flowLate, elapsed, ConfigSet.timeoutMicros, hlimit, and_assoc]

end Sys2Proof.Machine
end

section
/-! The link (R40 to R59): what characters, faults and an idle line do to the receiver, how a frame completes, and the ends of the
access gap, of a frame in flight and of a collision. -/

namespace Sys2Proof.Machine

/-! ### Characters that complete no frame (R48 to R50) -/

/-- The receiver after a good character that completes no frame (R49, R50). -/
def Receiver.hears (began : Bool) (c : Byte) : Receiver → Receiver
  | .off => .off
  | .discard => .discard
  | .hunt => if c = delimiter then .collect began [] else .discard
  | .collect own cs => if cs = [] && !lengthOk c then .discard else .collect own (cs ++ [c])

/-- Whether this character is a format fault that counts: a length out of range, in a frame not the station's own (R50, R53). -/
def Receiver.faults (c : Byte) : Receiver → Bool
  | .collect own cs => cs == [] && !lengthOk c && !own
  | .off | .hunt | .discard => false

theorem Receiver.completedBy_collect (own : Bool) (l : Byte) (rest : List Byte) (c : Byte) :
    (Receiver.collect own (l :: rest)).completedBy c = decide (rest.length + 1 = l.toNat + 2) := by
  rw [Bool.eq_iff_iff]
  simp [Receiver.completedBy, frameWhole]

/-- A character that is not the last of a frame completes none. -/
theorem Receiver.completedBy_eq_false {r : Receiver} {c : Byte}
    (h : ∀ own l rest, r = .collect own (l :: rest) → rest.length + 1 ≠ l.toNat + 2) : r.completedBy c = false := by
  match r with
  | .off | .hunt | .discard => rfl
  | .collect own [] => rfl
  | .collect own (l :: rest) => rw [Receiver.completedBy_collect, decide_eq_false (h own l rest rfl)]

/-- What the receiver does with a good character that completes no frame (R48 to R50, R53). -/
theorem State.receive_of_incomplete {s : State} {c : Byte} (h : s.lu.receiver.completedBy c = false) :
    s.receive c = { s with lu.receiver := s.lu.receiver.hears s.lu.beganSending c }.bumpIf (s.lu.receiver.faults c)
      .formatErrors := by
  cases hr : s.lu.receiver with
  | off => simp only [State.receive, hr, Receiver.hears, Receiver.faults]; rw [← hr]; rfl
  | discard => simp only [State.receive, hr, Receiver.hears, Receiver.faults]; rw [← hr]; rfl
  | hunt =>
    simp only [State.receive, hr, Receiver.hears, Receiver.faults]
    split <;> rfl
  | collect own cs =>
    rw [hr] at h
    cases cs with
    | nil =>
      have : frameWhole [c] = false := by simp [frameWhole]
      cases hl : lengthOk c <;>
        simp [State.receive, hr, Receiver.hears, Receiver.faults, hl, State.dropFrame, this, State.bumpIf]
    | cons l rest =>
      have : frameWhole (l :: rest ++ [c]) = false := by simpa [Receiver.completedBy] using h
      simp only [State.receive, hr, Receiver.hears, Receiver.faults, this]
      rfl

theorem State.nextCharacter_bumpIf (last b : Bool) (c : Counter) (s : State) :
    (s.bumpIf b c).nextCharacter last = (s.nextCharacter last).bumpIf b c := by cases b <;> rfl

/-- A good character that completes no frame, whole (R40, R53). -/
theorem State.character_of_incomplete {s : State} {c : Byte} (h : s.lu.receiver.completedBy c = false) :
    s.character c = { s with lu := { s.lu.dominant (tailClocks c) with
      receiver := s.lu.receiver.hears s.lu.beganSending c
      beganSending := s.lu.transmitter.isSending } }.bumpIf (s.lu.receiver.faults c) .formatErrors := by
  have began := LinkUnit.dominant_isSending (tailClocks c) s.lu
  unfold State.character
  rw [State.receive_of_incomplete (s := { s with lu := s.lu.dominant (tailClocks c) }) h, h,
    State.nextCharacter_bumpIf, ← began, ← Bool.and_true (s.lu.dominant (tailClocks c)).transmitter.isSending]
  rfl

/-- What a framing fault does, whole (R40, R49, R50, R53). -/
theorem State.framingFault_eq (s : State) : s.framingFault = { s with lu := { s.lu.dominant 0 with
      receiver := match s.lu.receiver with
        | .off => .off
        | .hunt | .collect _ _ | .discard => .discard
      beganSending := s.lu.transmitter.isSending } }.bumpIf
    (match s.lu.receiver with
      | .collect own _ => !own
      | .off | .hunt | .discard => false) .formatErrors := by
  have began := LinkUnit.dominant_isSending 0 s.lu
  unfold State.framingFault
  rw [← began]
  cases hr : s.lu.receiver with
  | collect own cs => 
    cases own with
    | true => simp [hr, State.dropFrame, State.nextCharacter, State.bumpIf]
    | false =>
      simp [hr, State.dropFrame, State.nextCharacter, State.bumpIf]
      rfl
  | off => simp [hr, State.nextCharacter, State.bumpIf, LinkUnit.dominant]
  | hunt => simp [hr, State.nextCharacter, State.bumpIf]
  | discard => simp [hr, State.nextCharacter, State.bumpIf, LinkUnit.dominant]

/-- What an idle line does, whole (R40, R48, R50). -/
theorem State.idleLine_of_collect {s : State} {own : Bool} {cs : List Byte} (h : s.lu.receiver = .collect own cs) :
    s.idleLine = { s.pass (idleClocks - s.lu.quiet) with lu.receiver := .hunt }.bumpIf (!own) .fragments := by
  unfold State.idleLine
  dsimp only
  split <;> next hr => simp_all

theorem State.idleLine_of_discard {s : State} (h : s.lu.receiver = .discard) :
    s.idleLine = { s.pass (idleClocks - s.lu.quiet) with lu.receiver := .hunt } := by
  unfold State.idleLine
  dsimp only
  split <;> next hr => simp_all

theorem State.idleLine_of_still {s : State} (h : s.lu.receiver = .off ∨ s.lu.receiver = .hunt) :
    s.idleLine = s.pass (idleClocks - s.lu.quiet) := by
  unfold State.idleLine
  dsimp only
  split <;> next hr => simp_all

/-- One event more, or none. -/
theorem State.count_bumpIf_eq_counted (s : State) (b : Bool) (c k : Counter) :
    (s.bumpIf b c).count k = if k = c ∧ b = true then counted 1 (s.count k) else s.count k := by
  cases b <;> simp [State.count_bumpIf, counted, satCount]

/-- What a line that is dominant now does to the Link Unit (R40, R56). -/
theorem LinkUnit.dominant_zero (l : LinkUnit) : l.dominant 0 = { l with
    quiet := 0
    transmitter := match l.transmitter with
      | .waiting slot k _ => .waiting slot k 0
      | other => other } := by
  unfold LinkUnit.dominant
  cases l.transmitter <;> simp

/-- What a good character that completes no frame leaves, clause by clause (R40, R48 to R50, R53). -/
theorem State.character_clauses {s : State} {c : Byte} (h : s.lu.receiver.completedBy c = false) :
    (s.character c).lu.receiver = s.lu.receiver.hears s.lu.beganSending c ∧
    (s.lu.receiver.faults c = false → (s.character c).sp = s.sp) ∧
    (∀ k, (s.character c).count k =
      if k = .formatErrors ∧ s.lu.receiver.faults c = true then counted 1 (s.count k) else s.count k) := by
  rw [State.character_of_incomplete h]
  refine ⟨by rw [State.bumpIf_lu], fun faultless => ?_, fun k => State.count_bumpIf_eq_counted _ _ _ _⟩
  rw [faultless]
  rfl

/-- Settles O42: good characters, framing faults, a busy and an idle line, in each receiver state. -/
theorem charactersReceived : Obligations.CharactersReceived := by
  refine ⟨fun _ => rfl, fun c s running => ⟨_, State.event_of_running running _, ?_⟩,
    fun s running => ⟨fun c own at0 bad => ?_, s.framingFault, State.event_of_running running _, ?_⟩, fun s running => ⟨?_, ?_⟩⟩
  · have lengthBad : c.toNat < 3 ∨ 16 < c.toNat ↔ lengthOk c = false := by simp [lengthOk]; omega
    refine ⟨fun hr => ?_, fun hr hc => ?_, fun hr hc => ?_, fun own hr low high => ?_, fun own hr bad => ?_,
      fun own l rest hr more => ?_, fun h => ?_⟩
    · obtain ⟨receiver, sp, -⟩ := State.character_clauses (s := s) (c := c) (by rcases hr with hr | hr <;> rw [hr] <;> rfl)
      rcases hr with hr | hr <;> rw [hr] at receiver sp ⊢ <;> exact ⟨receiver, sp rfl⟩
    · obtain ⟨receiver, sp, -⟩ := State.character_clauses (s := s) (c := c) (by rw [hr]; rfl)
      rw [hr] at receiver sp
      exact ⟨receiver.trans (if_pos hc), sp rfl⟩
    · obtain ⟨receiver, sp, -⟩ := State.character_clauses (s := s) (c := c) (by rw [hr]; rfl)
      rw [hr] at receiver sp
      exact ⟨receiver.trans (if_neg hc), sp rfl⟩
    · obtain ⟨receiver, sp, -⟩ := State.character_clauses (s := s) (c := c) (by rw [hr]; rfl)
      have ok : lengthOk c = true := by simp [lengthOk, low, high]
      rw [hr] at receiver sp
      exact ⟨receiver.trans (by simp [Receiver.hears, ok]), sp (by simp [Receiver.faults, ok])⟩
    · obtain ⟨receiver, -, count⟩ := State.character_clauses (s := s) (c := c) (by rw [hr]; rfl)
      have not_ok := lengthBad.mp bad
      rw [hr] at receiver count
      exact ⟨receiver.trans (by simp [Receiver.hears, not_ok]),
        fun k => (count k).trans (by simp [Receiver.faults, not_ok])⟩
    · obtain ⟨receiver, sp, -⟩ := State.character_clauses (s := s) (c := c) (by
        rw [hr, Receiver.completedBy_collect, decide_eq_false more])
      rw [hr] at receiver sp
      exact ⟨receiver, sp rfl⟩
    · rw [State.character_of_incomplete (Receiver.completedBy_eq_false h), State.bumpIf_eq, LinkUnit.dominant_eq]
      exact ⟨rfl, rfl⟩
  · have fault : s.lu.receiver.atLength = true ∧ lengthOk c = false := by
      rw [at0]
      exact ⟨rfl, by simp [lengthOk]; omega⟩
    refine (State.event_of_running running _).trans (.trans ?_ (State.event_of_running running _).symm)
    simp [State.formatFault, fault]
  · refine ⟨?_, fun k => ?_, ?_⟩
    · refine (congrArg (·.lu.receiver) s.framingFault_eq).trans
        ((congrArg LinkUnit.receiver (State.bumpIf_lu _ _ _)).trans ?_)
      cases s.lu.receiver <;> rfl
    · rw [State.framingFault_eq, State.count_bumpIf_eq_counted]
      cases s.lu.receiver with
      | collect own cs => cases own <;> cases k <;> rfl
      | _ => cases k <;> rfl
    · obtain ⟨b, r, h⟩ : ∃ (b : Bool) (r : Receiver), s.framingFault = { s with lu := { s.lu.dominant 0 with
          receiver := r, beganSending := s.lu.transmitter.isSending } }.bumpIf b .formatErrors :=
        ⟨_, _, s.framingFault_eq⟩
      rw [h, LinkUnit.dominant_zero]
      cases b <;> cases s.lu.transmitter <;> rfl
  · have busy : exec .lineBusy s = .next { s with lu := s.lu.dominant 0 } :=
      State.event_of_running running fun s => { s with lu := s.lu.dominant 0 }
    refine busy.trans ?_
    unfold LinkUnit.dominant
    cases s.lu.transmitter <;> simp
  · rintro p rfl
    refine ⟨fun h => ?_, fun h => ?_, fun own cs h => ⟨_, State.event_of_running running _, fun k => ?_, ?_⟩⟩
    · exact (State.event_of_running running _).trans (congrArg _ (State.idleLine_of_still h))
    · exact (State.event_of_running running _).trans (congrArg _ (State.idleLine_of_discard h))
    · rw [State.idleLine_of_collect h]
      refine (State.count_bumpIf_eq_counted _ _ _ _).trans ?_
      simp only [Bool.not_eq_true']
      rfl
    · rw [State.idleLine_of_collect h, State.bumpIf_eq]
      rfl

/-! ### Whole frames (R51 to R53, R66, R67) -/

/-- The state a whole frame is checked in: the line was last dominant before the character's tail, and the receiver hunts. -/
def State.hunting (c : Byte) (s : State) : State := { s with lu := { s.lu.dominant (tailClocks c) with receiver := .hunt } }

theorem State.character_of_complete {s : State} {own : Bool} {l : Byte} {rest : List Byte}
    (hr : s.lu.receiver = .collect own (l :: rest)) (whole : rest.length = l.toNat + 1) (c : Byte) :
    s.character c = ((if own then s.hunting c else match checkFrame (l :: rest ++ [c]) with
      | .crcFailure => (s.hunting c).bump .crcErrors
      | .formatFailure => (s.hunting c).bump .formatErrors
      | .good f => ((s.hunting c).bump .framesAccepted).arrive f) : State).nextCharacter true := by
  have done : s.lu.receiver.completedBy c = true := by
    rw [hr, Receiver.completedBy_collect, decide_eq_true (by omega)]
  have all : frameWhole (l :: rest ++ [c]) = true := by simp [frameWhole, whole]
  unfold State.character
  rw [done]
  unfold State.receive
  simp only [LinkUnit.dominant_receiver, hr, all]
  rfl

/-- What a frame with the own address does in each station state (R12). -/
theorem State.conflict_of_active {s : State} (h : s.sc.state = .active) : s.conflict =
    { ((s.bump .conflicts).setLatch .addressConflict).withdraw .report with
      sc := { s.sc with state := .muted, muteCount := 8 } } := by
  unfold State.conflict
  simp [h]

theorem State.conflict_of_muted {s : State} (h : s.sc.state = .muted) : s.conflict =
    { (s.bump .conflicts).setLatch .addressConflict with sc.muteCount := 8 } := by
  unfold State.conflict
  simp [h]

theorem State.conflict_of_other {s : State} (ha : s.sc.state ≠ .active) (hm : s.sc.state ≠ .muted) :
    s.conflict = (s.bump .conflicts).setLatch .addressConflict := by
  unfold State.conflict
  dsimp only
  split <;> simp_all

/-- A conflict sets ADDRESS_CONFLICT and no other latch (R12). -/
theorem State.conflict_latched (s : State) (x : Latch) :
    s.conflict.latched x = (s.latched x || x == Latch.addressConflict) := by
  by_cases ha : s.sc.state = .active
  · rw [State.conflict_of_active ha]
    refine (State.latched_congr (State.withdraw_sp_latches _ _) x).trans ?_
    rw [State.latched_setLatch, State.latched_bump]
  · by_cases hm : s.sc.state = .muted
    · rw [State.conflict_of_muted hm]
      exact State.latched_setLatch _ _ _
    · rw [State.conflict_of_other ha hm]
      exact State.latched_setLatch _ _ _

/-- A conflict counts CONFLICTS, and in ACTIVE each report it withdraws (R12, assumption log 26). -/
theorem State.conflict_count (s : State) (k : Counter) : s.conflict.count k =
    if k = .superseded ∧ s.sc.state = .active then
      counted (oneIf s.lu.reportSlot.isSome + oneIf (s.lu.transmitter.inFlightFrom .report)) (s.count k)
    else if k = .conflicts then counted 1 (s.count k) else s.count k := by
  have once : ((s.bump .conflicts).setLatch .addressConflict).count k =
      if k = .conflicts then counted 1 (s.count k) else s.count k := by
    rw [State.count_setLatch, State.count_bump]
    rfl
  by_cases ha : s.sc.state = .active
  · rw [State.conflict_of_active ha]
    refine (State.withdraw_count .report _ k).trans ?_
    by_cases hk : k = .superseded
    · subst hk
      rw [if_pos ⟨rfl, rfl⟩, if_pos ⟨rfl, ha⟩, once, if_neg (by decide)]
      rfl
    · rw [if_neg (fun h => hk h.1), if_neg (fun h => hk h.1), once]
  · rw [if_neg (fun h => ha h.2), ← once]
    by_cases hm : s.sc.state = .muted
    · rw [State.conflict_of_muted hm]
      rfl
    · rw [State.conflict_of_other ha hm]

/-- All that routing can do at a given table and cycle unit state (R67): it leaves a table, latches and counters. -/
theorem State.route_shape (f : Frame) (s : State) : ∃ (table : PeerTable) (latches : Byte → Byte)
    (counters : Counters → Counters), ∀ t : State, t.pt = s.pt → t.cu.state = s.cu.state → t.route f =
      { t with pt := table, sp.latches := latches t.sp.latches, sp.counters := counters t.sp.counters } := by
  cases ho : s.tableOpen with
  | true =>
    obtain ⟨after, changed, duplicate, rejected, h⟩ := State.applyFrame_shape s.pt.entries f
    refine ⟨{ s.pt with entries := after }, fun l => if changed then l ||| (1#8 <<< Latch.tableChanged.bit) else l,
      fun k => (if rejected then (·.bump .seqRejects) else id) ((if duplicate then (·.bump .duplicates) else id) k),
      fun t pt cu => ?_⟩
    have opened : t.tableOpen = true := State.tableOpen_iff.mpr (cu.trans (State.tableOpen_iff.mp ho))
    rw [State.route_of_open opened, h t (congrArg _ pt), ← pt]
    cases changed <;> cases duplicate <;> cases rejected <;> rfl
  | false =>
    have offered : ∀ t : State, t.pt = s.pt → t.cu.state = s.cu.state → t.route f = t.offer f := by
      intro t _ cu
      refine State.route_of_closed ?_ f
      rw [← ho, State.tableOpen, cu, State.tableOpen]
    by_cases hw : s.pt.queue.any (·.source == f.source) = true
    · refine ⟨{ s.pt with queue := replaceInPlace f s.pt.queue }, id, id, fun t pt cu => ?_⟩
      rw [offered t pt cu, State.offer, pt, if_pos hw]
      rfl
    · by_cases hl : s.pt.queue.length < 8
      · refine ⟨{ s.pt with queue := s.pt.queue ++ [f] }, id, id, fun t pt cu => ?_⟩
        rw [offered t pt cu, State.offer, pt, if_neg hw, if_pos hl]
        rfl
      · refine ⟨s.pt, (· ||| (1#8 <<< Latch.rxOverrun.bit)), (·.bump .overruns), fun t pt cu => ?_⟩
        rw [offered t pt cu, State.offer, pt, if_neg hw, if_neg hl, ← pt]
        rfl

/-- What every whole frame leaves as it is (R51 to R53): all but the link, the station state and its mute count, the table, the
latches and the counters; and of the link, the slots and the sequence number. -/
structure State.HearsWhole (s : State) (c : Byte) (t : State) : Prop where
  frame : t = { s with lu := t.lu, sc := t.sc, pt := t.pt, sp.latches := t.sp.latches, sp.counters := t.sp.counters }
  receiver : t.lu.receiver = .hunt
  notice : t.lu.noticeSlot = s.lu.noticeSlot
  sequence : t.lu.sequence = s.lu.sequence
  quiet : t.lu.quiet = min s.lu.quiet (tailClocks c)
  stands : t.sc.state = s.sc.state →
    t.lu.reportSlot = s.lu.reportSlot ∧ t.lu.transmitter = (s.lu.dominant (tailClocks c)).transmitter

/-- An outcome that leaves the link hunting. -/
theorem State.HearsWhole.of_link {s o : State} {c : Byte} (lu : o.lu = (s.hunting c).lu)
    (frame : o = { s with lu := o.lu, sc := o.sc, pt := o.pt, sp.latches := o.sp.latches, sp.counters := o.sp.counters }) :
    s.HearsWhole c (o.nextCharacter true) where
  frame := congrArg (State.nextCharacter true) frame
  receiver := congrArg LinkUnit.receiver lu
  notice := (congrArg LinkUnit.noticeSlot lu :)
  sequence := (congrArg LinkUnit.sequence lu :)
  quiet := (congrArg LinkUnit.quiet lu :)
  stands _ := ⟨(congrArg LinkUnit.reportSlot lu :), (congrArg LinkUnit.transmitter lu :)⟩

/-- A conflict, in each station state. -/
theorem State.conflict_hearsWhole (s : State) (c : Byte) :
    s.HearsWhole c (((s.hunting c).bump .framesAccepted).conflict.nextCharacter true) := by
  obtain ⟨t, ht⟩ : ∃ t, t = (s.hunting c).bump .framesAccepted := ⟨_, rfl⟩
  have hsc : t.sc = s.sc := by rw [ht]; rfl
  rw [← ht]
  by_cases ha : s.sc.state = .active
  · rw [State.conflict_of_active (s := t) (by rw [hsc, ha]), State.withdraw_report_eq, ht]
    exact ⟨rfl, rfl, rfl, rfl, rfl, fun h => StationState.noConfusion ((h :).trans ha)⟩
  · by_cases hm : s.sc.state = .muted
    · rw [State.conflict_of_muted (s := t) (by rw [hsc, hm]), ht]
      exact .of_link rfl rfl
    · rw [State.conflict_of_other (s := t) (by rw [hsc]; exact ha) (by rw [hsc]; exact hm), ht]
      exact .of_link rfl rfl

theorem State.route_hearsWhole (s : State) (c : Byte) (f : Frame) :
    s.HearsWhole c (((s.hunting c).bump .framesAccepted).route f |>.nextCharacter true) := by
  obtain ⟨table, latches, counters, h⟩ := State.route_shape f s
  rw [h _ (by rfl) (by rfl)]
  exact .of_link rfl rfl

/-- Every whole frame, whatever the check finds. -/
theorem State.character_hearsWhole {s : State} {own : Bool} {l : Byte} {rest : List Byte}
    (hr : s.lu.receiver = .collect own (l :: rest)) (whole : rest.length = l.toNat + 1) (c : Byte) :
    s.HearsWhole c (s.character c) := by
  rw [State.character_of_complete hr whole]
  cases own with
  | true => exact .of_link rfl rfl
  | false =>
    rw [if_neg (by simp)]
    cases checkFrame (l :: rest ++ [c]) with
    | crcFailure => exact .of_link rfl rfl
    | formatFailure => exact .of_link rfl rfl
    | good f =>
      dsimp only [State.arrive]
      split
      · exact s.conflict_hearsWhole c
      · exact s.route_hearsWhole c f

/-- No character after a whole frame is the station's own (assumption log 20). -/
theorem State.character_beganSending_of_complete {s : State} {own : Bool} {l : Byte} {rest : List Byte}
    (hr : s.lu.receiver = .collect own (l :: rest)) (whole : rest.length = l.toNat + 1) (c : Byte) :
    (s.character c).lu.beganSending = false := by
  rw [State.character_of_complete hr whole]
  exact Bool.and_false _

/-- The count a conflict leaves after its frame was accepted (R12, R51). -/
theorem State.hunting_conflict_count (s : State) (c : Byte) (k : Counter) :
    ((s.hunting c).bump .framesAccepted).conflict.count k =
    if k = .superseded ∧ s.sc.state = .active then
      counted (oneIf s.lu.reportSlot.isSome + oneIf (s.lu.transmitter.inFlightFrom .report)) (s.count k)
    else if k = .conflicts ∨ k = .framesAccepted then counted 1 (s.count k) else s.count k := by
  have accepted : ((s.hunting c).bump .framesAccepted).count k =
      if k = .framesAccepted then counted 1 (s.count k) else s.count k := State.count_bump (s.hunting c) _ _
  have flying : ((s.hunting c).bump .framesAccepted).lu.transmitter.inFlightFrom .report =
      s.lu.transmitter.inFlightFrom .report := LinkUnit.dominant_inFlightFrom (tailClocks c) s.lu .report
  refine (State.conflict_count _ k).trans ?_
  rw [flying, accepted]
  by_cases h : k = .superseded
  · subst h; rfl
  · cases k <;> rfl

/-- What a frame with the own address moves (R12, assumption log 26). -/
theorem State.conflict_clauses (s : State) (c : Byte) :
    ∀ t, t = ((s.hunting c).bump .framesAccepted).conflict.nextCharacter true →
      t.pt = s.pt ∧ (∀ x : Latch, t.latched x = (s.latched x || x == Latch.addressConflict)) ∧
      t.count .conflicts = counted 1 (s.count .conflicts) ∧
      t.count .framesAccepted = counted 1 (s.count .framesAccepted) ∧
      (∀ k : Counter, k ∉ [Counter.conflicts, .framesAccepted, .superseded] → t.count k = s.count k) ∧
      (s.sc.state ≠ .active → t.count .superseded = s.count .superseded) ∧
      (s.sc.state = .active → t.sc = { s.sc with state := .muted, muteCount := 8 } ∧ t.lu.reportSlot = none ∧
        t.lu.transmitter.serving .report = false ∧
        t.count .superseded = counted (oneIf s.lu.reportSlot.isSome +
          oneIf (s.lu.transmitter.inFlightFrom .report)) (s.count .superseded)) ∧
      (s.sc.state = .muted → t.sc = { s.sc with muteCount := 8 }) ∧
      (s.sc.state ≠ .active → s.sc.state ≠ .muted → t.sc = s.sc) := by
  rintro t rfl
  have count := s.hunting_conflict_count c
  obtain ⟨u, hu⟩ : ∃ u, u = (s.hunting c).bump .framesAccepted := ⟨_, rfl⟩
  have state : u.sc = s.sc := by rw [hu]; rfl
  rw [← hu] at count ⊢
  refine ⟨?_, fun x => (State.conflict_latched u x).trans (by rw [hu]; rfl), count .conflicts, count .framesAccepted,
    fun k hk => (count k).trans ?_, fun h => (count _).trans (if_neg fun both => h both.2),
    fun h => ?_, fun h => ?_, fun ha hm => ?_⟩
  · exact (u.conflict_stands.pt).trans (by rw [hu]; rfl)
  · simp only [List.mem_cons, List.not_mem_nil, or_false, not_or] at hk
    rw [if_neg (fun h => hk.2.2 h.1), if_neg (by simp [hk])]
  · have hit := State.conflict_of_active (s := u) (by rw [state, h])
    have ⟨slot, served⟩ := ((u.bump .conflicts).setLatch .addressConflict).withdraw_serving .report
    exact ⟨(congrArg State.sc hit).trans (by rw [state]), (congrArg (·.lu.reportSlot) hit).trans slot,
      (congrArg (·.lu.transmitter.serving .report) hit).trans served, (count _).trans (if_pos ⟨rfl, h⟩)⟩
  · exact (congrArg State.sc (State.conflict_of_muted (s := u) (by rw [state, h]))).trans (by rw [← state]; rfl)
  · exact (congrArg State.sc (State.conflict_of_other (s := u) (by rwa [state]) (by rwa [state]))).trans state

/-- Settles O43: a whole frame is dropped, counted, routed, or a conflict, and `State.HearsWhole` of each is the frame. -/
theorem frameCompletes : Obligations.FrameCompletes := by
  intro c l rest own s running hr whole
  have done : s.lu.receiver.completedBy c = true := by
    rw [hr, Receiver.completedBy_collect, decide_eq_true (by omega)]
  have taken : exec (.frameComplete c) s = .next (s.character c) :=
    (State.event_of_running running _).trans (congrArg _ (if_pos done))
  have outcome := State.character_of_complete hr whole c
  obtain ⟨frame, receiver, notice, sequence, quiet, stands⟩ := State.character_hearsWhole hr whole c
  refine ⟨taken.trans (State.event_of_running running _).symm, s.character c, taken, receiver, frame, notice, sequence,
    quiet, State.character_beganSending_of_complete hr whole c, fun h => ⟨(stands h).1, (stands h).2.trans ?_⟩,
    fun mine => ?_, fun other bad => ?_, fun other bad => ?_, fun f other good foreign => ?_, fun f other good same => ?_⟩
  · unfold LinkUnit.dominant
    cases s.lu.transmitter <;> rfl
  · rw [outcome, if_pos mine]
    rfl
  · rw [outcome, if_neg (by simp [other]), bad]
    rfl
  · rw [outcome, if_neg (by simp [other]), bad]
    rfl
  · obtain ⟨table, latches, counters, h⟩ := State.route_shape f s
    have routed : s.character c = (((s.hunting c).bump .framesAccepted).route f).nextCharacter true := by
      rw [outcome, if_neg (by simp [other]), good]
      exact congrArg _ (if_neg foreign)
    rw [routed, h _ (by rfl) (by rfl), h s rfl rfl, h (s.bump .framesAccepted) rfl rfl]
    exact ⟨rfl, rfl, rfl⟩
  · have hit : s.character c = ((s.hunting c).bump .framesAccepted).conflict.nextCharacter true := by
      rw [outcome, if_neg (by simp [other]), good]
      exact congrArg _ (if_pos same)
    rw [hit]
    exact State.conflict_clauses s c _ rfl

end Sys2Proof.Machine
end

section

/-! LEMMAS. A complete access gap, the end of a frame and a collision (O44, O45; R40, R53 to R59). -/

namespace Sys2Proof.Machine

/-! ### What the transmitter is doing -/

theorem Transmitter.inFlightFrom_iff (x : Transmitter) (slot : Slot) :
    x.inFlightFrom slot = true ↔ ∃ o τ, x = .sending o τ ∧ o.frame.slot = slot := by
  cases x <;> simp [Transmitter.inFlightFrom]

theorem Transmitter.serving_iff (x : Transmitter) (slot : Slot) :
    x.serving slot = true ↔ (∃ o τ, x = .sending o τ ∧ o.frame.slot = slot) ∨ ∃ k gap, x = .waiting slot k gap := by
  cases x <;> simp [Transmitter.serving]

theorem Transmitter.isSending_iff (x : Transmitter) : x.isSending = true ↔ ∃ o τ, x = .sending o τ := by
  cases x <;> simp [Transmitter.isSending]

/-! ### The access gap and the end of a frame (R56, R59) -/

/-- The access gap (3 + k) C in clock periods (R40, R56). -/
theorem gapClocks_eq (k : Nat) : gapClocks k = ((3 + k) * 6250 + 2) / 3 := by
  unfold gapClocks bitClocks
  omega

theorem State.accessGap_of_waiting {s : State} {slot : Slot} {k gap : Nat} {o : Outgoing}
    (ht : s.lu.transmitter = .waiting slot k gap) (ho : s.lu.slot slot = some o) : s.accessGap =
      { s.pass (gapClocks k - gap) with
        lu := { (s.pass (gapClocks k - gap)).lu.setSlot slot none with
          transmitter := .sending o 0, quiet := 0, beganSending := true } } := by
  simp only [State.accessGap, ht, ho]

theorem State.frameSent_of_sending {s : State} {o : Outgoing} {τ : Nat} (ht : s.lu.transmitter = .sending o τ) :
    s.frameSent = { s.pass (bitClocks o.frame.bitTimes - τ) with
      lu := { (s.pass (bitClocks o.frame.bitTimes - τ)).lu with
        transmitter := servedBy s.sc.address s.lu.noticeSlot s.lu.reportSlot, beganSending := false } } := by
  simp only [State.frameSent, ht, LinkUnit.serve_eq]
  rfl

/-- Settles O44: the gap of R56 in clock periods is `gapClocks_eq`, and `LinkUnit.serve_eq` is what the transmitter serves. -/
theorem gapCompletesAndFrameSent : Obligations.GapCompletesAndFrameSent := by
  refine ⟨fun x slot => ⟨x.inFlightFrom_iff slot, x.serving_iff slot, x.isSending_iff⟩, fun _ _ => ⟨rfl, rfl⟩,
    fun s slot k gap o running ht ho => ⟨s.pass (gapClocks k - gap), _, by rw [gapClocks_eq],
      State.event_of_running running _, ?_⟩, fun s o τ running ht => ⟨_, rfl, ?_⟩⟩
  · rw [State.accessGap_of_waiting ht ho]
    cases slot <;> rfl
  · exact (State.event_of_running running _).trans (congrArg _ (State.frameSent_of_sending ht))

/-! ### A collision (R58) -/

theorem LinkUnit.superseding_eq_false {l : LinkUnit} {o : Outgoing} (h : o.frame.slot = .notice ∨ l.reportSlot = none) :
    l.superseding o = false := by
  rcases h with h | h <;> simp [LinkUnit.superseding, h]

/-- What every collision of a frame in flight does, whatever becomes of the frame. -/
structure State.Collides (s t : State) : Prop where
  transmitter : t.lu.transmitter = servedBy s.sc.address t.lu.noticeSlot t.lu.reportSlot
  frame : t = { s with
    lu := { t.lu with sequence := s.lu.sequence, quiet := s.lu.quiet, beganSending := false }
    sp.latches := t.sp.latches, sp.counters := t.sp.counters }
  receiver : t.lu.receiver = s.lu.receiver.unmark
  collisions : t.count .collisions = counted 1 (s.count .collisions)
  others : ∀ k : Counter, k ∉ [Counter.collisions, .superseded, .abandoned] → t.count k = s.count k

/-- Counting COLLISIONS leaves the counters that no outcome steps. -/
theorem State.count_collision (s : State) (k : Counter) (hk : k ∉ [Counter.collisions, .superseded, .abandoned]) :
    (s.bump .collisions).count k = s.count k :=
  (State.count_bump _ _ k).trans (if_neg (by rintro rfl; simp at hk))

/-- A frame that a newer report supersedes (R58, R62). -/
theorem State.collision_superseded {s : State} {o : Outgoing} {τ : Nat} (ht : s.lu.transmitter = .sending o τ)
    (slot : o.frame.slot = .report) (newer : s.lu.reportSlot.isSome = true) : s.Collides s.collision ∧
      s.collision.lu.reportSlot = s.lu.reportSlot ∧ s.collision.lu.noticeSlot = s.lu.noticeSlot ∧
      s.collision.count .superseded = counted 1 (s.count .superseded) ∧
      s.collision.count .abandoned = s.count .abandoned ∧ s.collision.sp.latches = s.sp.latches := by
  have superseded : s.lu.superseding o = true := by simp [LinkUnit.superseding, slot, newer]
  rcases State.collision_cases ht with ⟨-, h⟩ | ⟨stays, -⟩ | ⟨stays, -⟩
  · rw [h, LinkUnit.serve_eq]
    refine ⟨⟨rfl, rfl, rfl, rfl, fun k hk => (State.count_bump _ _ k).trans ?_⟩, rfl, rfl, rfl, rfl, rfl⟩
    rw [if_neg (by rintro rfl; simp at hk)]
    exact s.count_collision k hk
  all_goals exact absurd (superseded.symm.trans stays) (by decide)

/-- A frame that returns to its slot (R58). -/
theorem State.collision_returned {s : State} {o : Outgoing} {τ : Nat} (ht : s.lu.transmitter = .sending o τ)
    (stays : s.lu.superseding o = false) (again : o.attempt + 1 < 6) : s.Collides s.collision ∧
      s.collision.count .superseded = s.count .superseded ∧
      s.collision.lu.slot o.frame.slot = some ⟨o.frame, o.attempt + 1⟩ ∧
      (o.frame.slot = .report → s.collision.lu.noticeSlot = s.lu.noticeSlot) ∧
      (o.frame.slot = .notice → s.collision.lu.reportSlot = s.lu.reportSlot) ∧
      s.collision.count .abandoned = s.count .abandoned ∧ s.collision.sp.latches = s.sp.latches := by
  rcases State.collision_cases ht with ⟨newer, -⟩ | ⟨-, -, h⟩ | ⟨-, last, -⟩
  · exact absurd (newer.symm.trans stays) (by decide)
  · rw [h, LinkUnit.serve_eq]
    cases hs : o.frame.slot with
    | report => exact ⟨⟨rfl, rfl, rfl, rfl, s.count_collision⟩, rfl, rfl, fun _ => rfl, nofun, rfl, rfl⟩
    | notice => exact ⟨⟨rfl, rfl, rfl, rfl, s.count_collision⟩, rfl, rfl, nofun, fun _ => rfl, rfl, rfl⟩
  · omega

/-- A frame abandoned at its sixth failed attempt (R58). -/
theorem State.collision_abandoned {s : State} {o : Outgoing} {τ : Nat} (ht : s.lu.transmitter = .sending o τ)
    (stays : s.lu.superseding o = false) (last : 6 ≤ o.attempt + 1) : s.Collides s.collision ∧
      s.collision.count .superseded = s.count .superseded ∧
      s.collision.lu.reportSlot = s.lu.reportSlot ∧ s.collision.lu.noticeSlot = s.lu.noticeSlot ∧
      s.collision.count .abandoned = counted 1 (s.count .abandoned) ∧
      ∀ l : Latch, s.collision.latched l = (s.latched l || l == Latch.txAbandoned) := by
  rcases State.collision_cases ht with ⟨newer, -⟩ | ⟨-, again, -⟩ | ⟨-, -, h⟩
  · exact absurd (newer.symm.trans stays) (by decide)
  · omega
  · rw [h, LinkUnit.serve_eq]
    refine ⟨⟨rfl, rfl, rfl, rfl, fun k hk => (State.count_bump _ _ k).trans ?_⟩, rfl, rfl, rfl, rfl,
      State.latched_setLatch _ _⟩
    rw [if_neg (by rintro rfl; simp at hk)]
    exact s.count_collision k hk

/-- Settles O45, by the three outcomes of `State.collision_cases`. -/
theorem collisionEnds : Obligations.CollisionEnds := by
  intro s o τ running ht
  have taken : exec .collision s = .next s.collision := State.event_of_running running _
  have all : s.Collides s.collision := by
    cases h : s.lu.superseding o with
    | true =>
      have ⟨slot, newer⟩ : o.frame.slot = .report ∧ s.lu.reportSlot.isSome = true := by
        simpa [LinkUnit.superseding] using h
      exact (State.collision_superseded ht slot newer).1
    | false =>
      by_cases again : o.attempt + 1 < 6
      · exact (State.collision_returned ht h again).1
      · exact (State.collision_abandoned ht h (by omega)).1
  refine ⟨s.collision, taken, all.transmitter, all.frame, all.receiver.trans ?_, all.others, all.collisions,
    fun slot newer => (State.collision_superseded ht slot newer).2, fun h => ?_⟩
  · cases s.lu.receiver <;> rfl
  have stays := LinkUnit.superseding_eq_false h
  refine ⟨?_, fun again => (State.collision_returned ht stays again).2.2, fun last => ⟨?_,
    (State.collision_abandoned ht stays last).2.2⟩⟩
  · by_cases again : o.attempt + 1 < 6
    · exact (State.collision_returned ht stays again).2.1
    · exact (State.collision_abandoned ht stays (by omega)).2.1
  · have next : s.abandonsNext = true := by
      simp only [State.abandonsNext, ht, stays]
      simpa using (by omega : 5 ≤ o.attempt)
    exact (State.event_of_running running _).trans (congrArg _ (if_pos next))

end Sys2Proof.Machine
end

section

/-! LEMMAS. Boundaries: what one does in each cycle unit state, and the end of a hold (O48, O49; R78 to R80, R85 to R97). -/

namespace Sys2Proof.Machine

/-! ### A boundary in each cycle unit state (R88 to R90) -/

theorem State.boundary_of_timer {s : State} {τ : Nat} (h : s.cu.timer = some τ) (still : ∀ k, s.cu.state ≠ .calc k) :
    s.boundary = (s.pass (s.cfg.cyclePeriod * 8000 - τ)).atBoundary := by
  unfold State.boundary
  rw [h]
  rcases hc : s.cu.state with _ | k | _ | _
  · rfl
  · exact absurd hc (still k)
  · rfl
  · rfl

theorem State.boundary_of_held {s : State} {τ : Nat} (h : s.cu.timer = some τ) (hc : s.cu.state = .held) :
    s.boundary = { s.pass (s.cfg.cyclePeriod * 8000 - τ) with cu := ⟨some 0, .heldPending⟩ } := by
  rw [State.boundary_of_timer h (by simp [hc])]
  simp only [State.atBoundary, State.pass_cu_state, hc]

theorem State.boundary_of_opened {s : State} {τ : Nat} (h : s.cu.timer = some τ) (hc : s.cu.state = .opened) :
    s.boundary = (s.pass (s.cfg.cyclePeriod * 8000 - τ)).agingPass.startComputation := by
  rw [State.boundary_of_timer h (by simp [hc])]
  simp only [State.atBoundary, State.pass_cu_state, hc]

theorem State.boundary_of_heldPending {s : State} {τ : Nat} (h : s.cu.timer = some τ) (hc : s.cu.state = .heldPending) :
    s.boundary =
      ((s.pass (s.cfg.cyclePeriod * 8000 - τ)).setLatch .holdOverrun).agingPass.agingPass.startComputation := by
  rw [State.boundary_of_timer h (by simp [hc])]
  simp only [State.atBoundary, State.pass_cu_state, hc]

/-- A forced release leaves as it is all but the table, the latches, the cycle unit and the FCU (R90). -/
theorem State.forcedRelease_eq (s : State) : (s.setLatch .holdOverrun).agingPass.agingPass.startComputation = { s with
    pt := ⟨passOver s.cfg.staleLimit (passOver s.cfg.staleLimit s.pt.entries), s.pt.queue⟩
    cu := ⟨some 0, .calc (s.takeIn s.flowGiven)⟩
    fcu := if s.flowLate then { s.fcu with seenEdge := false, lastPeriod := none, lastFlow := 0 } else s.fcu
    sp.latches := (s.setLatch .holdOverrun).agingPass.agingPass.sp.latches } := by
  rw [State.agingPass_startComputation_eq, State.takeIn_agingPass, State.flowGiven_agingPass, State.flowLate_agingPass,
    State.agingPass_fcu, State.agingPass_cfg, State.agingPass_pt]
  rw [State.agingPass_frame (s.setLatch .holdOverrun)]
  rfl

/-- The latches two passes set, after HOLD_OVERRUN (R80, R90). -/
theorem State.forcedRelease_latched (s : State) (l : Latch) :
    (s.setLatch .holdOverrun).agingPass.agingPass.latched l = (s.latched l || l == Latch.holdOverrun ||
      (l == Latch.tableChanged && (passRemoves s.cfg.staleLimit s.pt.entries (fun _ => true) ||
        passRemoves s.cfg.staleLimit (passOver s.cfg.staleLimit s.pt.entries) (fun _ => true))) ||
      (l == Latch.indexLost &&
        (passRemoves s.cfg.staleLimit s.pt.entries (fun a => s.fe.indexAddress == some a) ||
          passRemoves s.cfg.staleLimit (passOver s.cfg.staleLimit s.pt.entries)
            (fun a => s.fe.indexAddress == some a)))) := by
  rw [State.agingPass_latched, State.agingPass_latched, State.latched_setLatch, State.agingPass_pt, State.agingPass_cfg,
    State.agingPass_fe]
  simp only [State.setLatch, Bool.and_or_distrib_left]
  ac_rfl

/-- Settles O48, by the cycle unit state the boundary finds. -/
theorem boundaryTaken : Obligations.BoundaryTaken := by
  refine ⟨fun fe => ?_, fun s p τ running timer hp => ?_⟩
  · unfold FiguresEngine.indexAddress
    cases fe.record <;> rfl
  have taken : exec .boundary s = .next s.boundary := State.event_of_running running _
  rw [taken]
  refine ⟨fun hc => ?_, fun hc => ⟨_, rfl, ?_⟩, fun hc => ⟨_, rfl, ?_⟩⟩
  · rw [State.boundary_of_held timer hc, hp]
  · rw [State.boundary_of_opened timer hc, ← hp, State.agingPass_startComputation_eq, hp]
    exact ⟨rfl, rfl, State.agingPass_latched _, rfl, rfl⟩
  · rw [State.boundary_of_heldPending timer hc, ← hp, State.forcedRelease_eq, hp]
    exact ⟨rfl, rfl, State.forcedRelease_latched _, rfl, rfl⟩

/-- Settles O49: HELD, HELD_PENDING and CALC are the three states that the hold and the two boundaries leave. -/
theorem holdEndsAtSecondBoundary : Obligations.HoldEndsAtSecondBoundary := by
  intro s selected runs timed opened
  obtain ⟨τ, timer⟩ := Option.isSome_iff_exists.mp timed
  have running : s.inReset = false := selected.1
  obtain ⟨t, ht⟩ : ∃ t, t = { s with cu.state := .held }.answered .done [] := ⟨_, rfl⟩
  obtain ⟨p, hp⟩ : ∃ p, p = t.pass (t.cfg.cyclePeriod * 8000 - τ) := ⟨_, rfl⟩
  obtain ⟨u, hu⟩ : ∃ u, u = { p with cu := ⟨some 0, .heldPending⟩ } := ⟨_, rfl⟩
  obtain ⟨q, hq⟩ : ∃ q, q = u.pass (u.cfg.cyclePeriod * 8000 - 0) := ⟨_, rfl⟩
  have first : t.boundary = u := by
    rw [State.boundary_of_held (s := t) (τ := τ) (by rw [ht]; exact timer) (by rw [ht]; rfl), hu, hp]
  have second : u.boundary = (q.setLatch .holdOverrun).agingPass.agingPass.startComputation := by
    rw [State.boundary_of_heldPending (s := u) (τ := 0) (by rw [hu]) (by rw [hu]), hq]
  have held : exec .hold s = .next t := by
    rw [exec_hold_of_selected selected, State.taking_of_ok (replyHold_of_opened runs opened), ht]
  have deferred : exec .boundary t = .next u :=
    (State.event_of_running (by rw [ht]; exact running) _).trans (congrArg _ first)
  have forced : exec .boundary u = .next _ :=
    (State.event_of_running (by rw [hu, hp, ht]; exact running) _).trans (congrArg _ second)
  have overrun : (q.setLatch .holdOverrun).agingPass.agingPass.latched .holdOverrun = true := by
    rw [State.forcedRelease_latched]
    simp
  rw [State.forcedRelease_eq] at forced
  refine ⟨t, u, _, q.takeIn q.flowGiven, held, deferred, forced, ?_⟩
  subst hq hu hp ht
  exact ⟨rfl, rfl, rfl, rfl, rfl, rfl, rfl, rfl, rfl, rfl, overrun⟩

end Sys2Proof.Machine
end

section

/-! LEMMAS. Completions: the results they commit, the report, the counts and the opening (O50 to O52; R86, R92, R93). -/

namespace Sys2Proof.Machine

/-! ### The steps of a completion, whole (R93) -/

theorem State.completion_of_calc {s : State} {τ : Nat} {k : Taken} (h : s.cu = ⟨some τ, .calc k⟩) :
    s.completion = (s.pass ((2 + s.pt.entries.length) * 8000 - τ)).complete k := by
  simp only [State.completion, h]
  rfl

theorem State.complete_of_plant {s : State} (hr : s.sc.role = .plant) {k : Taken} {f : Figures}
    (hf : f = figures s.sc s.cfg k s.pt.entries) :
    s.complete k = ((s.commitStarved f.starved).commitPlant k f).countStep.openTable := by
  simp only [State.complete, ← hf, State.commitStarved_sc, hr]

theorem State.complete_of_customer {s : State} (hr : s.sc.role = .customer) {k : Taken} {f : Figures}
    (hf : f = figures s.sc s.cfg k s.pt.entries) :
    s.complete k = ((s.commitStarved f.starved).commitCustomer k f).countStep.openTable := by
  simp only [State.complete, ← hf, State.commitStarved_sc, hr]

theorem State.commitStarved_fe (s : State) (b : Bool) : (s.commitStarved b).fe = { s.fe with lastStarved := b } := by
  apply FiguresEngine.ext <;> simp

/-- The count step reaches of the Figures Engine the pump mode alone (R11, R121). -/
theorem State.countStep_fe (s : State) : s.countStep.fe = { s.fe with mode := s.countStep.fe.mode } := by
  apply FiguresEngine.ext <;> simp

theorem State.commitCustomer_fe (s : State) (k : Taken) (f : Figures) : (s.commitCustomer k f).fe =
    { s.fe with
      record := some (recordOf s.sc k f (.customer k.request (customerLaw s.sc.state s.cfg k s.fe.request f).cap
        (customerLaw s.sc.state s.cfg k s.fe.request f).target))
      cap := (customerLaw s.sc.state s.cfg k s.fe.request f).cap } := by
  simp [State.commitCustomer]

/-! ### What a plant's completion leaves in the Figures Engine and the drive -/

/-- The pump mode that a plant's completion leaves (R93, R121). -/
theorem State.complete_fe_mode_of_plant {s : State} (hr : s.sc.role = .plant) {k : Taken} {f : Figures}
    (hf : f = figures s.sc s.cfg k s.pt.entries) {r : PlantResult} (law : r = plantLaw s.sc.state s.cfg k f) :
    (s.complete k).fe.mode =
      if s.sc.state = .listen ∧ s.sc.listenCount ≤ 1 then
        if 0 < r.speed then (if s.sc.available = true then .run else .stopping)
        else if s.sc.available = true then .frozen else .stopped
      else r.mode := by
  rw [State.complete_of_plant hr hf, State.openTable_fe, State.countStep_fe_mode]
  simp only [State.commitPlant_sc_state, State.commitPlant_sc_listenCount, State.commitPlant_sc_role,
    State.commitPlant_sc_available, State.commitStarved_sc, State.commitPlant_fe, State.commitStarved_cfg, hr, and_true, ← law]
  by_cases h : s.sc.state = .listen ∧ s.sc.listenCount ≤ 1
  · have frozen : r.mode = .frozen := by rw [law, h.1]; rfl
    rw [if_pos h, if_pos h, frozen]
    rfl
  · rw [if_neg h, if_neg h]

theorem State.complete_fe_of_plant {s : State} (hr : s.sc.role = .plant) {k : Taken} {f : Figures}
    (hf : f = figures s.sc s.cfg k s.pt.entries) {r : PlantResult} (law : r = plantLaw s.sc.state s.cfg k f) :
    (s.complete k).fe = { s.fe with
      record := some (recordOf s.sc k f (.plant r.mode r.speed r.integral r.atLimit))
      mode := (s.complete k).fe.mode
      speed := r.speed, integral := r.integral, atLimit := r.atLimit, holdingCount := r.holdingCount
      lastStarved := f.starved } := by
  rw [State.complete_of_plant hr hf, State.openTable_fe, State.countStep_fe, State.commitPlant_fe, State.commitStarved_fe,
    State.commitStarved_sc, State.commitStarved_cfg, ← law]

/-- The rest of the state that a completion moves or leaves. -/
theorem State.complete_pd_of_plant {s : State} (hr : s.sc.role = .plant) {k : Taken} {f : Figures}
    (hf : f = figures s.sc s.cfg k s.pt.entries) {r : PlantResult} (law : r = plantLaw s.sc.state s.cfg k f) :
    (s.complete k).pd = { s.pd with command := r.speed } := by
  rw [State.complete_of_plant hr hf, State.openTable_pd, State.countStep_pd, State.commitPlant_pd, State.commitStarved_sc,
    State.commitStarved_cfg, ← law]
  simp

/-! ### What every completion does in the port, the link and the table -/

/-- The report of a completion in ACTIVE counts SUPERSEDED for the one it replaces (R62). -/
theorem State.reportStep_count (s : State) (r : Report) (c : Counter) : (s.reportStep r).count c =
    if c = .superseded ∧ s.sc.state = .active then counted (oneIf s.lu.reportSlot.isSome) (s.count c) else s.count c := by
  by_cases ha : s.sc.state = .active
  · rw [State.reportStep_of_active ha, State.placeReport_count]
    simp only [ha, and_true]
    rfl
  · rw [if_neg (fun both => ha both.2)]
    by_cases hm : s.sc.state = .muted
    · rw [State.reportStep_of_muted hm]
      rfl
    · rw [State.reportStep_of_silent ha hm]

/-- A run of frames sets no latch but TABLE_CHANGED. -/
theorem State.foldl_applyFrame_latched_of_ne (q : List Frame) (s : State) {x : Latch} (h : x ≠ .tableChanged) :
    (q.foldl State.applyFrame s).latched x = s.latched x :=
  State.foldl_applyFrame_keeps (·.latched x) (fun s f => by
    obtain ⟨es, c, d, j, hf⟩ := State.applyFrame_shape s.pt.entries f
    rw [hf s rfl]
    simp [h]) q s

/-- What a completion hands to its report step: a state that has the starved condition noted and the results committed, and
the report to build (R92, R93, R114). -/
structure State.Commits (s : State) (k : Taken) (f : Figures) (u : State) (r : Report) : Prop where
  whole : s.complete k = (u.reportStep r).countStep.openTable
  lu : u.lu = s.lu
  sc : u.sc = s.sc
  pt : u.pt = s.pt
  cu : u.cu = s.cu
  mu : u.mu = s.mu
  fcu : u.fcu = s.fcu
  cfg : u.cfg = s.cfg
  sp : u.sp = (s.commitStarved f.starved).sp
  report : match s.sc.role with
    | .plant => r = plantReport s.sc s.cfg k f (plantLaw s.sc.state s.cfg k f)
    | .customer => r = customerReport s.sc k f (customerLaw s.sc.state s.cfg k s.fe.request f)

theorem State.exists_commits (s : State) (k : Taken) {f : Figures} (hf : f = figures s.sc s.cfg k s.pt.entries) :
    ∃ u r, s.Commits k f u r := by
  cases hr : s.sc.role with
  | plant =>
    refine ⟨_, _, State.complete_of_plant hr hf, State.commitStarved_lu _ _, State.commitStarved_sc _ _,
      State.commitStarved_pt _ _, State.commitStarved_cu _ _, State.commitStarved_mu _ _, State.commitStarved_fcu _ _,
      State.commitStarved_cfg _ _, by rfl, ?_⟩
    simp only [hr, State.commitStarved_sc, State.commitStarved_cfg]
  | customer =>
    refine ⟨_, _, State.complete_of_customer hr hf, State.commitStarved_lu _ _, State.commitStarved_sc _ _,
      State.commitStarved_pt _ _, State.commitStarved_cu _ _, State.commitStarved_mu _ _, State.commitStarved_fcu _ _,
      State.commitStarved_cfg _ _, by rfl, ?_⟩
    simp only [hr, State.commitStarved_sc, State.commitStarved_cfg, State.commitStarved_fe_request]

section
variable {s u : State} {k : Taken} {f : Figures} {r : Report}

/-- The latches of a completion: those of the queue applied to the table as it stands, and STARVED_ENTERED (R71, R114). -/
theorem State.Commits.latched (h : s.Commits k f u r) (x : Latch) : (s.complete k).latched x =
    ((s.pt.queue.foldl State.applyFrame s).latched x || (x == Latch.starvedEntered && f.starved && !s.fe.lastStarved)) := by
  have entries : (u.reportStep r).countStep.pt = s.pt := by rw [State.countStep_pt, State.reportStep_pt, h.pt]
  have before : (u.reportStep r).countStep.latched x =
      (s.latched x || (x == Latch.starvedEntered && f.starved && !s.fe.lastStarved)) := by
    rw [State.latched_congr (congrArg _ (State.countStep_sp _)) x, State.latched_congr (State.reportStep_sp_latches u r) x,
      State.latched_congr (congrArg _ h.sp) x, State.commitStarved_latched, Bool.and_comm, Bool.and_assoc]
  rw [h.whole, State.openTable_eq, entries]
  exact State.foldl_applyFrame_latched _ (congrArg _ entries) before

/-- A count before the queue drains (R62, R114). -/
theorem State.Commits.count_before (h : s.Commits k f u r) (c : Counter) : (u.reportStep r).countStep.count c =
    if c = .superseded ∧ s.sc.state = .active then counted (oneIf s.lu.reportSlot.isSome) (s.count c)
    else if c = .starvedCycles then counted (oneIf f.starved) (s.count c) else s.count c := by
  have noted : u.count c = if c = .starvedCycles then counted (oneIf f.starved) (s.count c) else s.count c := by
    rw [State.count_congr (congrArg _ h.sp), State.commitStarved_count]
    cases f.starved with
    | true => simp only [true_and]; rfl
    | false => simp [counted, oneIf]
  rw [State.count_congr (congrArg _ (State.countStep_sp _)), State.reportStep_count, h.sc, h.lu]
  by_cases hs : c = .superseded
  · subst hs
    rw [noted, if_neg (by decide : ¬Counter.superseded = .starvedCycles)]
  · rw [if_neg (fun both => hs both.1), if_neg (fun both => hs both.1), noted]

/-- The counters of a completion that neither the report nor the starved condition steps: those of the queue applied to the
table as it stands (R71). -/
theorem State.Commits.count (h : s.Commits k f u r) {c : Counter} (hs : c ≠ .superseded) (hc : c ≠ .starvedCycles) :
    (s.complete k).count c = (s.pt.queue.foldl State.applyFrame s).count c := by
  have entries : (u.reportStep r).countStep.pt = s.pt := by rw [State.countStep_pt, State.reportStep_pt, h.pt]
  have before : (u.reportStep r).countStep.count c = s.count c := by
    rw [h.count_before, if_neg (fun both => hs both.1), if_neg hc]
  rw [h.whole, State.openTable_eq, entries]
  exact State.foldl_applyFrame_count _ (congrArg _ entries) before

/-- The counters of a completion that the queue does not step (R62, R114). -/
theorem State.Commits.count_of_ne (h : s.Commits k f u r) {c : Counter} (hd : c ≠ .duplicates) (hs : c ≠ .seqRejects) :
    (s.complete k).count c = (u.reportStep r).countStep.count c := by
  rw [h.whole, State.openTable_eq]
  exact State.foldl_applyFrame_count_of_ne _ _ hd hs

/-- The starved condition of a completion (R114). -/
theorem State.Commits.starved (h : s.Commits k f u r) :
    (s.complete k).count .starvedCycles = counted (oneIf f.starved) (s.count .starvedCycles) ∧
    (s.complete k).latched .starvedEntered = (s.latched .starvedEntered || (f.starved && !s.fe.lastStarved)) := by
  refine ⟨?_, ?_⟩
  · rw [h.count_of_ne (by decide) (by decide), h.count_before, if_neg (by simp), if_pos rfl]
  · rw [h.latched, State.foldl_applyFrame_latched_of_ne _ _ (by decide)]
    simp

/-- What a completion leaves as it is. -/
theorem State.Commits.stands (h : s.Commits k f u r) :
    (s.complete k).mu = s.mu ∧ (s.complete k).fcu = s.fcu ∧ (s.complete k).cfg = s.cfg := by
  rw [h.whole]
  simp [h.mu, h.fcu, h.cfg]

end

/-- Settles O50: `State.complete_fe_of_plant` is what the law leaves, and the queue sets and steps nothing of the starved
condition. -/
theorem plantCompletionCommits : Obligations.PlantCompletionCommits := by
  intro s τ k f r running hr hcu hf law
  have taken : exec .computationCompletion s = .next s.completion := State.event_of_running running _
  rw [State.completion_of_calc hcu] at taken
  obtain ⟨p, hp⟩ : ∃ p, p = s.pass ((2 + s.pt.entries.length) * 8000 - τ) := ⟨_, rfl⟩
  rw [← hp] at taken
  have hf' : f = figures p.sc p.cfg k p.pt.entries := by rw [hf, hp]; rfl
  have law' : r = plantLaw p.sc.state p.cfg k f := by rw [law, hp]; rfl
  have hr' : p.sc.role = .plant := by rw [hp]; exact hr
  obtain ⟨u, report, h⟩ := p.exists_commits k hf'
  obtain ⟨mu, fcu, cfg⟩ := h.stands
  obtain ⟨cycles, entered⟩ := h.starved
  refine ⟨p, p.complete k, hp, taken, ?_, State.complete_pd_of_plant hr' hf' law', ?_, mu, fcu,
    cfg.trans (by rw [hp]; rfl), cycles.trans (by rw [hp]; rfl), entered.trans (by rw [hp]; rfl)⟩
  · rw [State.complete_fe_of_plant hr' hf' law', State.complete_fe_mode_of_plant hr' hf' law', recordOf, hr', hp]
    rfl
  · rw [State.complete_of_plant hr' hf', State.openTable_vd, State.countStep_vd, State.commitPlant_vd,
      State.commitStarved_vd, hp, State.pass_vd_of_plant hr]

/-! ### What a customer's completion leaves -/

theorem State.complete_fe_of_customer {s : State} (hr : s.sc.role = .customer) {k : Taken} {f : Figures}
    (hf : f = figures s.sc s.cfg k s.pt.entries) {r : CustomerResult}
    (law : r = customerLaw s.sc.state s.cfg k s.fe.request f) : (s.complete k).fe = { s.fe with
      record := some (recordOf s.sc k f (.customer k.request r.cap r.target)), cap := r.cap, lastStarved := f.starved } := by
  have mode : ((s.commitStarved f.starved).commitCustomer k f).countStep.fe.mode = s.fe.mode := by
    rw [State.countStep_fe_mode, if_neg (by simp [hr])]
    simp
  rw [State.complete_of_customer hr hf, State.openTable_fe, State.countStep_fe, mode, State.commitCustomer_fe,
    State.commitStarved_fe, State.commitStarved_sc, State.commitStarved_cfg, ← law]

theorem State.complete_vd_of_customer {s : State} (hr : s.sc.role = .customer) {k : Taken} {f : Figures}
    (hf : f = figures s.sc s.cfg k s.pt.entries) {r : CustomerResult}
    (law : r = customerLaw s.sc.state s.cfg k s.fe.request f) : (s.complete k).vd =
      r.target.elim s.vd (fun target => s.vd.target s.cfg target) := by
  rw [State.complete_of_customer hr hf, State.openTable_vd, State.countStep_vd, State.commitCustomer_vd,
    State.commitStarved_fe_request, State.commitStarved_sc, State.commitStarved_cfg, State.commitStarved_vd, ← law]
  cases r.target <;> rfl

/-- The cap law by its rows (Table 8.1). -/
theorem capLaw_of_fed {f : Figures} (h : f.starved = false) (cfg : ConfigSet) (cap : Nat) :
    capLaw cfg cap f = min 10000 (cap + cfg.relax) := by simp [capLaw, h]

theorem capLaw_of_yielding {f : Figures} (h : f.starved = true) (other : f.ownIndex = false) (short : 0 < f.deficit)
    (cfg : ConfigSet) (cap : Nat) : capLaw cfg cap f =
      max cfg.capFloor (cap - min cfg.stepMax (f.deficit * cfg.yieldGain / 2 ^ cfg.yieldShift)) := by
  simp [capLaw, yieldStep, h, other, Nat.ne_of_gt short]

theorem capLaw_of_standing {f : Figures} (h : f.starved = true) (stands : f.ownIndex = true ∨ f.deficit = 0)
    (cfg : ConfigSet) (cap : Nat) : capLaw cfg cap f = cap := by
  simp [capLaw, h, stands]

/-- What a customer's work commits in each station state (R140, R145). -/
theorem customerLaw_cap_of_heard {state : StationState} (h : state = .active ∨ state = .muted) (cfg : ConfigSet) (k : Taken)
    (request : Nat) (f : Figures) : (customerLaw state cfg k request f).cap = capLaw cfg k.cap f := by
  rcases h with h | h <;> rw [h] <;> rfl

theorem customerLaw_cap_of_unheard {state : StationState} (h : state = .listen ∨ state = .quiet) (cfg : ConfigSet)
    (k : Taken) (request : Nat) (f : Figures) : (customerLaw state cfg k request f).cap = k.cap := by
  rcases h with h | h <;> rw [h] <;> rfl

theorem customerLaw_target {state : StationState} (hc : state ≠ .config) (hq : state ≠ .quiet) (cfg : ConfigSet)
    (k : Taken) (request : Nat) (f : Figures) : (customerLaw state cfg k request f).target =
      some (min k.request (min request (customerLaw state cfg k request f).cap)) := by
  cases state <;> simp_all [customerLaw]

/-- Settles O51: the cap law by its three rows, and the target of `customerLaw` in each station state. -/
theorem customerCompletionCommits : Obligations.CustomerCompletionCommits := by
  intro s τ k f running hr hcu hcap hf
  have taken : exec .computationCompletion s = .next s.completion := State.event_of_running running _
  rw [State.completion_of_calc hcu] at taken
  obtain ⟨p, hp⟩ : ∃ p, p = s.pass ((2 + s.pt.entries.length) * 8000 - τ) := ⟨_, rfl⟩
  rw [← hp] at taken
  have hf' : f = figures p.sc p.cfg k p.pt.entries := by rw [hf, hp]; rfl
  have hr' : p.sc.role = .customer := by rw [hp]; exact hr
  obtain ⟨r, law⟩ : ∃ r, r = customerLaw s.sc.state s.cfg k s.fe.request f := ⟨_, rfl⟩
  have law' : r = customerLaw p.sc.state p.cfg k p.fe.request f := by rw [law, hp]; rfl
  obtain ⟨u, report, h⟩ := p.exists_commits k hf'
  obtain ⟨mu, fcu, cfg⟩ := h.stands
  obtain ⟨cycles, entered⟩ := h.starved
  have fe := State.complete_fe_of_customer hr' hf' law'
  have vd := State.complete_vd_of_customer hr' hf' law'
  have cap : (p.complete k).fe.cap = r.cap := congrArg _ fe
  refine ⟨p, p.complete k, hp, taken, ?_, fun h => ⟨?_, ?_, ?_⟩, fun h => ?_, fun h => ⟨r.target, ?_, ?_, ?_⟩, ?_, mu, fcu,
    cfg.trans (by rw [hp]; rfl), cycles.trans (by rw [hp]; rfl), entered.trans (by rw [hp]; rfl)⟩
  · rw [fe, hp]
    rfl
  · intro fed
    rw [cap, law, customerLaw_cap_of_heard h, hcap, capLaw_of_fed fed]
  · intro starved other short
    rw [cap, law, customerLaw_cap_of_heard h, hcap, capLaw_of_yielding starved other short]
  · intro starved stands
    rw [cap, law, customerLaw_cap_of_heard h, hcap, capLaw_of_standing starved stands]
  · rw [cap, law, customerLaw_cap_of_unheard h, hcap]
  · rw [fe, recordOf, hr', hp]
    rfl
  · intro other
    have target : r.target = some (min k.request (min s.fe.request r.cap)) := by rw [law]; exact customerLaw_target h other ..
    refine ⟨by rw [cap, target], vd.trans ?_⟩
    rw [cap, target, hp]
    rfl
  · intro quiet
    have target : r.target = none := by rw [law, quiet]; rfl
    exact ⟨target, by rw [vd, target]; rfl⟩
  · rw [State.complete_of_customer hr' hf', State.openTable_pd, State.countStep_pd, State.commitCustomer_pd,
      State.commitStarved_pd, hp, State.pass_pd_of_customer hr]

end Sys2Proof.Machine
end

section

/-! LEMMAS. What a completion does in the link, the counts and the table (O52; R10, R11, R13, R44 to R46, R60 to R62, R71). -/

namespace Sys2Proof.Machine

section
variable {s u : State} {k : Taken} {f : Figures} {r : Report}

/-! ### What stands around the report step -/

/-- The link of a completion is the link of its report step. -/
theorem State.Commits.lu_eq (h : s.Commits k f u r) : (s.complete k).lu = (u.reportStep r).lu := by
  rw [h.whole, State.openTable_lu, State.countStep_lu]

/-- The table opens and the queue is applied as at a table that stood open (R71). -/
theorem State.Commits.opens (h : s.Commits k f u r) : (s.complete k).cu = ⟨s.cu.timer, .opened⟩ ∧
    (s.complete k).pt.queue = [] ∧
    (s.complete k).pt.entries = (s.pt.queue.foldl State.applyFrame s).pt.entries ∧ (s.complete k).tableOpen = true := by
  have entries : (u.reportStep r).countStep.pt = s.pt := by rw [State.countStep_pt, State.reportStep_pt, h.pt]
  have timer : (u.reportStep r).countStep.cu = s.cu := by rw [State.countStep_cu, State.reportStep_cu, h.cu]
  rw [h.whole, State.openTable_eq, entries, timer]
  exact ⟨rfl, rfl, State.foldl_applyFrame_entries_congr _ (congrArg _ entries), rfl⟩

/-- Of the port, a completion moves latches and counters alone. -/
theorem State.Commits.sp_frame (h : s.Commits k f u r) :
    (s.complete k).sp = { s.sp with latches := (s.complete k).sp.latches, counters := (s.complete k).sp.counters } := by
  rw [h.whole]
  apply SupervisoryPort.ext <;> simp [h.sp]

/-- The counts step last (R10, R11, R13). -/
theorem State.Commits.sc_eq (h : s.Commits k f u r) : (s.complete k).sc =
    match s.sc.state with
    | .active => { s.sc with firstReport := false }
    | .listen =>
      if s.sc.listenCount ≤ 1 then { s.sc with state := .active, listenCount := 0, muteCount := 0, firstReport := true }
      else { s.sc with listenCount := s.sc.listenCount - 1 }
    | .muted =>
      if s.sc.muteCount ≤ 1 then { s.sc with state := .active, listenCount := 0, muteCount := 0, firstReport := true }
      else { s.sc with muteCount := s.sc.muteCount - 1 }
    | .quiet | .config => s.sc := by
  have sc := State.countStep_sc (u.reportStep r)
  rw [h.whole, State.openTable_sc]
  cases hs : s.sc.state with
  | active => 
    rw [sc, State.reportStep_of_active (by rw [h.sc, hs]), State.placeReport_sc, h.sc]
    simp only [hs]
  | muted =>
    rw [sc, State.reportStep_of_muted (by rw [h.sc, hs])]
    simp only [h.sc, hs]
  | _ =>
    rw [sc, State.reportStep_of_silent (by rw [h.sc, hs]; decide) (by rw [h.sc, hs]; decide)]
    simp only [h.sc, hs]

/-! ### The report step in each station state (R60 to R62) -/

theorem State.Commits.sequence (h : s.Commits k f u r) : (s.complete k).lu.sequence =
    if s.sc.state = .active ∨ s.sc.state = .muted then s.lu.sequence + 1 else s.lu.sequence := by
  rw [h.lu_eq]
  by_cases ha : s.sc.state = .active
  · rw [State.reportStep_of_active (by rw [h.sc, ha]), State.placeReport_lu_sequence, if_pos (.inl ha), h.lu]
  · by_cases hm : s.sc.state = .muted
    · rw [State.reportStep_of_muted (by rw [h.sc, hm]), if_pos (.inr hm), h.lu]
    · rw [State.reportStep_of_silent (by rwa [h.sc]) (by rwa [h.sc]), if_neg (by simp [ha, hm]), h.lu]

/-- Outside ACTIVE no report is placed (R61). -/
theorem State.reportStep_lu_of_ne {s : State} (h : s.sc.state ≠ .active) (r : Report) :
    (s.reportStep r).lu = { s.lu with sequence := (s.reportStep r).lu.sequence } := by
  by_cases hm : s.sc.state = .muted
  · rw [State.reportStep_of_muted hm]
  · rw [State.reportStep_of_silent h hm]

theorem State.Commits.silent (h : s.Commits k f u r) (ha : s.sc.state ≠ .active) :
    (s.complete k).lu.reportSlot = s.lu.reportSlot ∧ (s.complete k).lu.transmitter = s.lu.transmitter ∧
    (s.complete k).count .superseded = s.count .superseded := by
  rw [h.count_of_ne (by decide) (by decide), h.count_before, if_neg (by simp [ha]), if_neg (by decide), h.lu_eq,
    State.reportStep_lu_of_ne (by rwa [h.sc]), h.lu]
  exact ⟨rfl, rfl, rfl⟩

/-- The report as it is placed: with the advanced sequence number, and RESTARTED from the first-report flag (R60, R61). -/
def State.numbered (s : State) (r : Report) : Report :=
  { r with sequence := s.lu.sequence + 1, flags.restarted := s.sc.firstReport }

/-- In ACTIVE the report is placed, and replaces one that waits (R62). -/
theorem State.Commits.placed (h : s.Commits k f u r) (ha : s.sc.state = .active) :
    (s.complete k).lu = ({ u with lu.sequence := s.lu.sequence + 1, sc.firstReport := false }.placeReport
      (s.numbered r)).lu ∧
    (s.complete k).lu.reportSlot = some ⟨.report (s.numbered r), 0⟩ ∧
    (s.complete k).count .superseded = counted (oneIf s.lu.reportSlot.isSome) (s.count .superseded) := by
  have placed : (s.complete k).lu = ({ u with lu.sequence := s.lu.sequence + 1, sc.firstReport := false }.placeReport
      (s.numbered r)).lu := by
    rw [h.lu_eq, State.reportStep_of_active (by rw [h.sc, ha]), h.lu, h.sc]
    rfl
  refine ⟨placed, by rw [placed, State.placeReport_lu_reportSlot], ?_⟩
  rw [h.count_of_ne (by decide) (by decide), h.count_before, if_pos ⟨rfl, ha⟩]

/-- What the transmitter does when the report is placed (R54, R62). -/
theorem State.Commits.transmits (h : s.Commits k f u r) (ha : s.sc.state = .active) :
    (s.lu.transmitter = .idle → (s.complete k).lu.transmitter =
      servedBy s.sc.address (s.complete k).lu.noticeSlot (s.complete k).lu.reportSlot) ∧
    (∀ x g, s.lu.transmitter = .waiting .report x g → (s.complete k).lu.transmitter =
      servedBy s.sc.address none (s.complete k).lu.reportSlot) ∧
    ((s.lu.transmitter.isSending = true ∨ ∃ x g, s.lu.transmitter = .waiting .notice x g) →
      (s.complete k).lu.transmitter = s.lu.transmitter) := by
  obtain ⟨lu, slot, -⟩ := h.placed ha
  have notice : (s.complete k).lu.noticeSlot = s.lu.noticeSlot := by
    rw [lu, State.placeReport_lu_noticeSlot, h.lu]
  have transmitter := (congrArg LinkUnit.transmitter lu).trans (State.placeReport_transmitter _ _)
  simp only [h.lu, h.sc] at transmitter
  rw [slot, notice]
  refine ⟨fun ht => ?_, fun x g ht => ?_, fun ht => ?_⟩
  · rw [transmitter, ht]
  · rw [transmitter, ht]
    rfl
  · rw [transmitter]
    rcases ht with ht | ⟨x, g, ht⟩
    · obtain ⟨o, τ, ht⟩ := (Transmitter.isSending_iff _).mp ht
      rw [ht]
    · rw [ht]

end

/-- The report of a plant's completion in ACTIVE (R44 to R46, R126). -/
theorem State.Commits.report_of_plant {s u : State} {k : Taken} {f : Figures} {r : Report} (h : s.Commits k f u r)
    (hr : s.sc.role = .plant) (hf : f = figures s.sc s.cfg k s.pt.entries) (ha : s.sc.state = .active) :
    r.source = s.sc.address ∧ r.role = s.sc.role ∧ r.flags.starved = f.starved ∧ r.flags.indexNone = f.index.isNone ∧
    r.flags.sensorFault = k.channelStates.toList.any (· != .valid) ∧ r.margin = f.margin ∧ r.flow = k.flow ∧
    r.deltaT = f.deltaT ∧ r.output = (s.complete k).fe.speed ∧ r.cap = none ∧ r.weight = some s.cfg.weight ∧
    r.flags.atLimit = (s.complete k).fe.atLimit ∧ r.flags.yielding = false ∧
    r.flags.available = (k.available && (s.complete k).fe.mode != .stopped && (s.complete k).fe.mode != .stopping) := by
  have report := h.report
  simp only [hr] at report
  have margin : f.margin = none := by rw [hf, figures_margin_of_plant hr]
  rw [State.complete_fe_mode_of_plant hr hf rfl, if_neg (by simp [ha]), State.complete_fe_of_plant hr hf rfl, report,
    margin, hr]
  exact ⟨rfl, rfl, rfl, rfl, rfl, rfl, rfl, rfl, rfl, rfl, rfl, rfl, rfl, rfl⟩

/-- The report of a customer's completion in ACTIVE (R44 to R46, R148). -/
theorem State.Commits.report_of_customer {s u : State} {k : Taken} {f : Figures} {r : Report} (h : s.Commits k f u r)
    (hr : s.sc.role = .customer) (hf : f = figures s.sc s.cfg k s.pt.entries) (ha : s.sc.state = .active) :
    r.source = s.sc.address ∧ r.role = s.sc.role ∧ r.flags.starved = f.starved ∧ r.flags.indexNone = f.index.isNone ∧
    r.flags.sensorFault = k.channelStates.toList.any (· != .valid) ∧ r.margin = f.margin ∧ r.flow = k.flow ∧
    r.deltaT = f.deltaT ∧ r.output = min k.request (min s.fe.request (s.complete k).fe.cap) ∧ r.weight = none ∧
    r.flags.available = false ∧ r.flags.atLimit = false ∧
    r.flags.yielding = decide ((s.complete k).fe.cap < 10000) ∧
    r.cap = if (s.complete k).fe.cap < 10000 then some (s.complete k).fe.cap else none := by
  have report := h.report
  simp only [hr] at report
  have target := customerLaw_target (state := s.sc.state) (by simp [ha]) (by simp [ha]) s.cfg k s.fe.request f
  rw [State.complete_fe_of_customer hr hf rfl, report, hr]
  exact ⟨rfl, rfl, rfl, rfl, rfl, rfl, rfl, rfl, by rw [customerReport, target]; rfl, rfl, rfl, rfl, rfl, rfl⟩

/-- Settles O52: a completion is the report step, the count step and the opening of `State.Commits`, each by its own lemma. -/
theorem completionReportsAndOpens : Obligations.CompletionReportsAndOpens := by
  intro s τ k f running hcu hf
  have taken : exec .computationCompletion s = .next s.completion := State.event_of_running running _
  rw [State.completion_of_calc hcu] at taken
  obtain ⟨p, hp⟩ : ∃ p, p = s.pass ((2 + s.pt.entries.length) * 8000 - τ) := ⟨_, rfl⟩
  rw [← hp] at taken
  have hf' : f = figures p.sc p.cfg k p.pt.entries := by rw [hf, hp]; rfl
  obtain ⟨u, r, h⟩ := p.exists_commits k hf'
  have sc : p.sc = s.sc := by rw [hp]; rfl
  have pt : p.pt = s.pt := by rw [hp]; rfl
  have cycles := h.starved.1
  obtain ⟨cu, queue, entries, opened⟩ := h.opens
  refine ⟨p, p.complete k, hp, taken, cu, queue, ?_, opened, h.sp_frame.trans (by rw [hp]; rfl), fun x => ?_,
    fun c hs hc => ?_, cycles.trans (by rw [hp]; rfl), ?_, ?_, ?_, fun ha => ?_, fun ha => ?_, ?_⟩
  · rw [entries, pt]
    exact State.foldl_applyFrame_entries_congr _ (congrArg _ pt)
  · have same : p.latched x = (s.latched x || false) := by rw [hp, Bool.or_false]; rfl
    rw [h.latched, pt, State.foldl_applyFrame_latched _ (congrArg _ pt) same, Bool.or_false, hp]
    rfl
  · rw [h.count hs hc, pt]
    exact State.foldl_applyFrame_count _ (congrArg _ pt) (by rw [hp]; rfl)
  · rw [h.sequence, hp]
    rfl
  · rw [h.lu_eq, State.reportStep_lu_noticeSlot, h.lu, hp]
    rfl
  · rw [h.lu_eq, State.reportStep_lu_receiver, h.lu, hp]
    rfl
  · obtain ⟨slot, transmitter, superseded⟩ := h.silent (by rwa [sc])
    exact ⟨slot.trans (by rw [hp]; rfl), transmitter, superseded.trans (by rw [hp]; rfl)⟩
  · have ha' : p.sc.state = .active := by rwa [sc]
    obtain ⟨-, slot, superseded⟩ := h.placed ha'
    obtain ⟨idle, waiting, busy⟩ := h.transmits ha'
    have passed : p.lu.transmitter = s.lu.transmitter.pass ((2 + s.pt.entries.length) * 8000 - τ) := by rw [hp]; rfl
    rw [sc] at idle waiting
    rw [passed] at idle waiting busy
    refine ⟨superseded.trans (by rw [hp]; rfl), fun ht => idle (by rw [ht]; rfl),
      fun x g ht => waiting x (g + _) (by rw [ht]; rfl), fun ht => (busy ?_).trans passed.symm, p.numbered r, slot, ?_⟩
    · rcases ht with ht | ⟨x, g, ht⟩
      · obtain ⟨o, n, ht⟩ := (Transmitter.isSending_iff _).mp ht
        rw [ht]
        exact .inl rfl
      · exact .inr ⟨x, g + _, by rw [ht]; rfl⟩
    · have sequence : (p.numbered r).sequence = s.lu.sequence + 1 := by rw [hp]; rfl
      have restarted : (p.numbered r).flags.restarted = s.sc.firstReport := by rw [hp]; rfl
      have cfg : p.cfg = s.cfg := by rw [hp]; rfl
      have fe : p.fe = s.fe := by rw [hp]; rfl
      rw [← sc, ← cfg, ← fe]
      cases hr : p.sc.role with
      | plant =>
        obtain ⟨source, role, starved, index, fault, margin, flow, deltaT, own⟩ := h.report_of_plant hr hf' ha'
        exact ⟨source, role.trans hr, sequence, by rw [restarted, sc], starved, index, fault, margin, flow, deltaT,
          fun _ => own, nofun⟩
      | customer =>
        obtain ⟨source, role, starved, index, fault, margin, flow, deltaT, own⟩ := h.report_of_customer hr hf' ha'
        exact ⟨source, role.trans hr, sequence, by rw [restarted, sc], starved, index, fault, margin, flow, deltaT,
          nofun, fun _ => own⟩
  · have counts := h.sc_eq
    rw [sc] at counts
    refine counts.trans ?_
    cases s.sc.state <;> rfl

end Sys2Proof.Machine
end

section

/-! LEMMAS. The six rows that name an outcome are the event that has it (O53; assumption log 6). -/

namespace Sys2Proof.Machine

/-! ### Conversions (R27 to R29) -/

/-- The record that a conversion leaves in the channel whose turn it is. -/
theorem State.conversion_get (code : BitVec 12) (s : State) : (s.conversion code).mu.channels.get s.mu.rotation =
    (s.mu.channels.get s.mu.rotation).convert (s.cfg.span.get s.mu.rotation) s.cfg.filterShift code := by
  unfold State.conversion
  simp

theorem Channel.convert_absent {c : Channel} {code : BitVec 12} (fault : code.toNat < 576 ∨ 3360 < code.toNat)
    (held : c.state = .faultHold) (long : 300 ≤ c.faultHold + 1) (span : Span) (shift : Nat) :
    c.convert span shift code = ⟨some code, .absent, none, 0, 0⟩ := by
  simp only [Channel.convert, scalingCode_of_fault fault, held]
  exact if_neg (by omega)

theorem Channel.convert_recovered {c : Channel} {code : BitVec 12} (low : 576 ≤ code.toNat) (high : code.toNat ≤ 3360)
    (lost : c.state = .faultHold ∨ c.state = .absent) (long : 10 ≤ c.recovery + 1) (span : Span) (shift : Nat) :
    ∃ x, c.convert span shift code = ⟨some code, .valid, some x, 0, 0⟩ := by
  refine ⟨sampleOf span.lo span.hi (max 640 (min 3200 code.toNat)), ?_⟩
  rcases lost with h | h <;> simp only [Channel.convert, scalingCode_of_valid low high, h] <;> exact if_neg (by omega)

/-- CHANNEL_ABSENT is the conversion that has that outcome (R28). -/
theorem exec_channelAbsent {code : BitVec 12} {s : State} (running : s.inReset = false)
    (fault : code.toNat < 576 ∨ 3360 < code.toNat) (held : (s.mu.channels.get s.mu.rotation).state = .faultHold)
    (long : 300 ≤ (s.mu.channels.get s.mu.rotation).faultHold + 1) :
    exec (.channelAbsent s.mu.rotation code) s = .next (s.conversion code) ∧
    (s.conversion code).mu.channels.get s.mu.rotation = ⟨some code, .absent, none, 0, 0⟩ ∧
    (s.conversion code).latched .sensorAbsent = true := by
  have after := (s.conversion_get code).trans (Channel.convert_absent fault held long _ _)
  refine ⟨(State.event_of_running running _).trans (congrArg _ (State.whenOutcome_of_true ?_)), after, ?_⟩
  · simp [held, after]
  · rw [State.conversion_latched code s rfl rfl, held, Channel.convert_absent fault held long]
    simp

/-- CHANNEL_RECOVERED is the conversion that has that outcome (R27, R29). -/
theorem exec_channelRecovered {code : BitVec 12} {s : State} (running : s.inReset = false) (low : 576 ≤ code.toNat)
    (high : code.toNat ≤ 3360) (lost : (s.mu.channels.get s.mu.rotation).state = .faultHold ∨
      (s.mu.channels.get s.mu.rotation).state = .absent) (long : 10 ≤ (s.mu.channels.get s.mu.rotation).recovery + 1) :
    exec (.channelRecovered s.mu.rotation code) s = .next (s.conversion code) ∧
    (∃ x, (s.conversion code).mu.channels.get s.mu.rotation = ⟨some code, .valid, some x, 0, 0⟩) ∧
    (s.conversion code).sp = s.sp := by
  obtain ⟨x, hx⟩ := Channel.convert_recovered low high lost long (s.cfg.span.get s.mu.rotation) s.cfg.filterShift
  have after := (s.conversion_get code).trans hx
  refine ⟨(State.event_of_running running _).trans (congrArg _ (State.whenOutcome_of_true ?_)), ⟨x, after⟩, ?_⟩
  · simpa [after] using lost
  · unfold State.conversion
    simp [hx, State.setLatchIf]

/-! ### Completions (R11, R13, R133) -/

/-- A completion that enters ACTIVE (R11, R13). -/
theorem State.Commits.sc_of_last {s u : State} {k : Taken} {f : Figures} {r : Report} (h : s.Commits k f u r)
    (last : s.sc.state = .listen ∧ s.sc.listenCount = 1 ∨ s.sc.state = .muted ∧ s.sc.muteCount = 1) :
    (s.complete k).sc = { s.sc with state := .active, listenCount := 0, muteCount := 0, firstReport := true } := by
  rcases last with ⟨state, one⟩ | ⟨state, one⟩ <;> rw [h.sc_eq, state] <;> exact if_pos (by omega)

/-- What a plant holds without an index when its holding count is full (R133). -/
theorem plantLaw_of_fallback {state : StationState} {cfg : ConfigSet} {k : Taken} {f : Figures}
    (heard : state = .active ∨ state = .muted) (holding : k.mode = .holding) (available : k.available = true)
    (lost : f.index = none) (full : cfg.staleLimit ≤ k.holdingCount + 1) : plantLaw state cfg k f =
      ⟨.fallback, k.speed, k.speed, atLimitAt cfg f.dp k.speed, 0⟩ := by
  have law : plantLaw state cfg k f = pumpLaw cfg k f := by rcases heard with h | h <;> rw [h] <;> rfl
  rw [law]
  simp only [pumpLaw, holding, available, lost, if_true]
  exact if_neg (by omega)

/-! ### Boundaries (R79, R80) -/

/-- The entry that a pass leaves for an address, where it leaves the entry found there (R78, R79). -/
theorem find_passOver {limit a : Nat} {e : Entry} {es : List Entry} (young : e.age + 1 < 2 * limit)
    (found : es.find? (·.address == a) = some e) : (passOver limit es).find? (·.address == a) = some { e with
      age := e.age + 1
      presentFor := min 65535 (e.presentFor + 1)
      state := if limit ≤ e.age + 1 then .stale else e.state } := by
  induction es with
  | nil => simp at found
  | cons x es ih =>
    have here : passOver limit (x :: es) = if x.age + 1 < 2 * limit then { x with
        age := x.age + 1
        presentFor := min 65535 (x.presentFor + 1)
        state := if limit ≤ x.age + 1 then .stale else x.state } :: passOver limit es else passOver limit es := by
      unfold passOver
      rw [List.filterMap_cons]
      split <;> simp_all
    by_cases hx : x.address = a
    · have same : x = e := by simpa [hx] using found
      subst same
      rw [here, if_pos young]
      simp [hx]
    · have rest := ih (by simpa [hx] using found)
      rw [here]
      split
      · simpa [hx] using rest
      · exact rest

/-- A pass leaves none for an address whose only entry reaches the age of removal (R80). -/
theorem find_passOver_eq_none {limit a : Nat} {e : Entry} {es : List Entry}
    (sorted : es.Pairwise (fun a b => a.address < b.address)) (found : es.find? (·.address == a) = some e)
    (old : 2 * limit ≤ e.age + 1) : (passOver limit es).find? (·.address == a) = none := by
  have here : e ∈ es ∧ e.address = a := ⟨List.mem_of_find?_eq_some found, by simpa using List.find?_some found⟩
  rw [List.find?_eq_none]
  intro x hx
  obtain ⟨y, hy, aged⟩ := List.mem_filterMap.mp hx
  split at aged
  · next young =>
    cases aged
    intro same
    have distinct : (es.map Entry.address).Nodup := List.pairwise_map.mpr (sorted.imp Nat.ne_of_lt)
    have one : y = e :=
      List.inj_on_of_nodup_map distinct hy here.1 ((by simpa using same : y.address = a).trans here.2.symm)
    rw [one] at young
    omega
  · cases aged

/-- The table and the latches after the boundary of a part with an open table (R78 to R80, R88). -/
theorem State.boundary_open {s : State} (timed : s.cu.timer.isSome = true) (opened : s.cu.state = .opened) :
    s.boundary.pt = ⟨passOver s.cfg.staleLimit s.pt.entries, s.pt.queue⟩ ∧
    ∀ l : Latch, s.boundary.latched l = (s.latched l ||
      (l == Latch.tableChanged && passRemoves s.cfg.staleLimit s.pt.entries (fun _ => true)) ||
      (l == Latch.indexLost && passRemoves s.cfg.staleLimit s.pt.entries (fun a => s.fe.indexAddress == some a))) := by
  obtain ⟨τ, timer⟩ := Option.isSome_iff_exists.mp timed
  rw [State.boundary_of_opened timer opened, State.agingPass_startComputation_eq]
  exact ⟨rfl, State.agingPass_latched _⟩

/-- Settles O53: each row is its event, since the event has the outcome the row names. -/
theorem outcomeRowsAreTheirEvents : Obligations.OutcomeRowsAreTheirEvents := by
  refine ⟨fun n code s running turn fault held long => ?_, fun n code s running turn low high lost long => ?_,
    fun s τ k running hcu last => ?_, fun s τ k running hcu role heard holding taken available lost full => ?_,
    fun a s e running timed opened found fresh stale young => ?_, fun a s e running timed opened law found old => ?_⟩
  · subst turn
    obtain ⟨row, record, absent⟩ := exec_channelAbsent running fault held long
    exact ⟨row.trans (State.event_of_running running _).symm, _, row, record, absent⟩
  · subst turn
    obtain ⟨row, ⟨x, record⟩, sp⟩ := exec_channelRecovered running low high lost long
    exact ⟨row.trans (State.event_of_running running _).symm, _, x, row, record, sp⟩
  · obtain ⟨p, hp⟩ : ∃ p, p = s.pass ((2 + s.pt.entries.length) * 8000 - τ) := ⟨_, rfl⟩
    have completes : s.completion = p.complete k := by rw [State.completion_of_calc hcu, hp]
    have sc : p.sc = s.sc := by rw [hp]; rfl
    obtain ⟨f, hf⟩ : ∃ f, f = figures p.sc p.cfg k p.pt.entries := ⟨_, rfl⟩
    obtain ⟨u, r, h⟩ := p.exists_commits k hf
    have after := h.sc_of_last (by rwa [sc])
    have row : exec .enterActive s = .next (p.complete k) := by
      refine (State.event_of_running running _).trans (congrArg _ ((State.whenOutcome_of_true ?_).trans completes))
      rw [completes, after]
      rcases last with ⟨state, -⟩ | ⟨state, -⟩ <;> rw [state] <;> rfl
    refine ⟨row.trans ((State.event_of_running running _).trans (congrArg _ completes)).symm, _, row,
      by rw [after], by rw [after], by rw [after], by rw [after], ?_⟩
    cases hr : s.sc.role with
    | plant =>
      rw [State.complete_fe_of_plant (by rw [sc, hr]) hf rfl, hf, hp]
      rfl
    | customer =>
      rw [State.complete_fe_of_customer (by rw [sc, hr]) hf rfl, hp]
      rfl
  · obtain ⟨p, hp⟩ : ∃ p, p = s.pass ((2 + s.pt.entries.length) * 8000 - τ) := ⟨_, rfl⟩
    have completes : s.completion = p.complete k := by rw [State.completion_of_calc hcu, hp]
    have sc : p.sc = s.sc := by rw [hp]; rfl
    obtain ⟨f, hf⟩ : ∃ f, f = figures p.sc p.cfg k p.pt.entries := ⟨_, rfl⟩
    have lost' : f.index = none := by rw [hf, hp]; exact lost
    have law := plantLaw_of_fallback (state := p.sc.state) (cfg := p.cfg) (by rwa [sc]) taken available lost'
      (by rw [hp]; exact full)
    have mode := State.complete_fe_mode_of_plant (by rw [sc, role]) hf law.symm
    have fe := State.complete_fe_of_plant (by rw [sc, role]) hf law.symm
    have pd := State.complete_pd_of_plant (by rw [sc, role]) hf law.symm
    rw [if_neg (by rw [sc]; rcases heard with h | h <;> simp [h])] at mode
    have row : exec .enterFallback s = .next (p.complete k) := by
      refine (State.event_of_running running _).trans (congrArg _ ((State.whenOutcome_of_true ?_).trans completes))
      rw [completes, mode, holding]
      rfl
    exact ⟨row.trans ((State.event_of_running running _).trans (congrArg _ completes)).symm, _, row, mode,
      by rw [fe], by rw [fe], by rw [fe], by rw [pd]⟩
  · obtain ⟨pt, -⟩ := State.boundary_open timed opened
    have after : s.boundary.pt.find a.toNat =
        some { e with age := e.age + 1, presentFor := min 65535 (e.presentFor + 1), state := .stale } := by
      rw [pt]
      exact (find_passOver young found).trans (by rw [if_pos stale])
    have row : exec (.entryStale a) s = .next s.boundary := by
      refine (State.event_of_running running _).trans (congrArg _ (State.whenOutcome_of_true ?_))
      rw [found, after]
      simp [fresh]
    exact ⟨row.trans (State.event_of_running running _).symm, _, row, after⟩
  · obtain ⟨pt, latched⟩ := State.boundary_open timed opened
    obtain ⟨sorted, -⟩ := law
    have here : e ∈ s.pt.entries ∧ e.address = a.toNat := PeerTable.find_mem found
    have after : s.boundary.pt.find a.toNat = none := by
      rw [pt]
      exact find_passOver_eq_none sorted found old
    have removes : ∀ named : Nat → Bool, named a.toNat = true → passRemoves s.cfg.staleLimit s.pt.entries named = true :=
      fun named hn => List.any_eq_true.mpr ⟨e, here.1, by simp [here.2, hn, old]⟩
    have row : exec (.entryRemoved a) s = .next s.boundary := by
      refine (State.event_of_running running _).trans (congrArg _ (State.whenOutcome_of_true ?_))
      rw [found, after]
      rfl
    refine ⟨row.trans (State.event_of_running running _).symm, _, row, after, ?_, fun index => ?_⟩
    · rw [latched, removes _ rfl]
      simp
    · rw [latched, removes (fun a => s.fe.indexAddress == some a) (by simp [index])]
      simp

end Sys2Proof.Machine
end

section

/-! LEMMAS. The plant law outside RUN: the rows of R123, AT_LIMIT, and the return of the index (O55, O56; R120 to R135). -/

namespace Sys2Proof.Machine

section
variable {x : StationState} {cfg : ConfigSet} {k : Taken} {f : Figures}

/-! ### The rows of R120 and R123 -/

theorem plantLaw_of_heard (h : x = .active ∨ x = .muted) : plantLaw x cfg k f = pumpLaw cfg k f := by
  rcases h with h | h <;> rw [h] <;> rfl

theorem plantLaw_of_frozen (h : x = .listen ∨ ((x = .active ∨ x = .muted) ∧ k.mode = .frozen ∧ 0 < k.speed)) :
    plantLaw x cfg k f = frozenStep cfg k f := by
  rcases h with h | ⟨heard, frozen, moving⟩
  · rw [h]
    rfl
  · rw [plantLaw_of_heard heard]
    simp only [pumpLaw, frozen, moving, if_true]

theorem plantLaw_of_stopping (h : x = .quiet ∨ ((x = .active ∨ x = .muted) ∧
      (k.mode = .stopping ∨ ((k.mode = .run ∨ k.mode = .holding ∨ k.mode = .fallback) ∧ k.available = false)))) :
    plantLaw x cfg k f = stopStep cfg k := by
  rcases h with h | ⟨heard, stopping | ⟨run | holding | fallback, unavailable⟩⟩
  · rw [h]
    rfl
  all_goals rw [plantLaw_of_heard heard, pumpLaw]
  · simp only [stopping]
  · simp [run, unavailable]
  · simp [holding, unavailable]
  · simp [fallback, unavailable]

theorem pumpLaw_of_standing (h : k.mode = .stopped ∨ (k.mode = .frozen ∧ k.speed = 0)) : pumpLaw cfg k f =
    if k.available = true then startPump cfg f else ⟨.stopped, 0, k.integral, false, 0⟩ := by
  rcases h with stopped | ⟨frozen, still⟩
  · simp only [pumpLaw, stopped]
  · simp only [pumpLaw, frozen, still, Nat.lt_irrefl, if_false]

theorem pumpLaw_of_lost (run : k.mode = .run) (available : k.available = true) (lost : f.index = none) :
    pumpLaw cfg k f = ⟨.holding, k.speed, k.speed, atLimitAt cfg f.dp k.speed, 1⟩ := by
  simp only [pumpLaw, run, available, lost, if_true]

theorem pumpLaw_of_holding (holding : k.mode = .holding) (available : k.available = true) (lost : f.index = none) :
    pumpLaw cfg k f = holdSpeed cfg k f (k.holdingCount + 1) := by
  simp only [pumpLaw, holding, available, lost, if_true]

theorem pumpLaw_of_fallback (fallback : k.mode = .fallback) (available : k.available = true) (lost : f.index = none) :
    pumpLaw cfg k f = fallbackStep cfg k f := by
  simp only [pumpLaw, fallback, available, lost, if_true]

theorem pumpLaw_of_return {m : Int} {a : Nat} (away : k.mode = .holding ∨ k.mode = .fallback) (available : k.available = true)
    (found : f.index = some (m, a)) : pumpLaw cfg k f = returnToRun cfg k f m := by
  rcases away with h | h <;> simp only [pumpLaw, h, available, found, if_true]

/-! ### What single rows commit -/

/-- A step of the stop sequence (R125). -/
theorem stopStep_speed_of_above (h : cfg.speedMin < k.speed) :
    (stopStep cfg k).speed = max cfg.speedMin (k.speed - cfg.ramp) := if_pos h

theorem stopStep_speed_of_low (h : k.speed ≤ cfg.speedMin) : (stopStep cfg k).speed = 0 := if_neg (by omega)

theorem stopStep_mode : (stopStep cfg k).mode = if (stopStep cfg k).speed = 0 then .stopped else .stopping := rfl

/-- The speed in FALLBACK without an index: ramped toward fallback_speed, and held from rising by a high header (R134). -/
theorem fallbackStep_speed {y : Int}
    (hy : y = max ((k.speed : Int) - cfg.ramp) (min ((k.speed : Int) + cfg.ramp) cfg.fallbackSpeed)) :
    ((fallbackStep cfg k f).speed : Int) = if headerHigh cfg f.dp = true then min y k.speed else y := by
  have ramped : rampFrom cfg k.speed cfg.fallbackSpeed = y := (clamp_eq_max_min (by omega) _).trans hy.symm
  have speed : (fallbackStep cfg k f).speed = (if headerHigh cfg f.dp = true then min y k.speed else y).toNat := by
    unfold fallbackStep
    dsimp only
    rw [ramped]
  rw [speed]
  split <;> omega

/-! ### AT_LIMIT (R132) -/

/-- AT_LIMIT is formed from the speed committed, unless the pump stops. -/
def PlantResult.Limited (cfg : ConfigSet) (f : Figures) (r : PlantResult) : Prop :=
  r.mode ≠ .stopped → r.mode ≠ .stopping → r.atLimit = atLimitAt cfg f.dp r.speed

theorem stopStep_limited : (stopStep cfg k).Limited cfg f := by
  intro stopped stopping
  rw [stopStep_mode] at stopped stopping
  split at stopped
  · exact absurd rfl stopped
  · next h => exact absurd (if_neg h) stopping

theorem holdSpeed_limited (n : Nat) : (holdSpeed cfg k f n).Limited cfg f := by
  intro _ _
  unfold holdSpeed
  split <;> rfl

theorem idle_limited {r : PlantResult} (h : r.mode = .stopped) : r.Limited cfg f := fun stopped => absurd h stopped

theorem pumpLaw_limited : (pumpLaw cfg k f).Limited cfg f := by
  unfold pumpLaw
  cases k.mode with
  | stopped =>
    dsimp only
    split
    · exact fun _ _ => rfl
    · exact idle_limited rfl
  | frozen =>
    dsimp only
    split
    · exact fun _ _ => rfl
    · split
      · exact fun _ _ => rfl
      · exact idle_limited rfl
  | stopping => exact stopStep_limited
  | run =>
    dsimp only
    split
    · split <;> exact fun _ _ => rfl
    · exact stopStep_limited
  | holding =>
    dsimp only
    split
    · split
      · exact fun _ _ => rfl
      · exact holdSpeed_limited _
    · exact stopStep_limited
  | fallback =>
    dsimp only
    split
    · split <;> exact fun _ _ => rfl
    · exact stopStep_limited

theorem plantLaw_limited : (plantLaw x cfg k f).Limited cfg f := by
  cases x with
  | listen => exact fun _ _ => rfl
  | active => exact pumpLaw_limited
  | muted => exact pumpLaw_limited
  | quiet => exact stopStep_limited
  | config => exact stopStep_limited

theorem atLimitAt_iff {dp : Option Int} {speed : Nat} : atLimitAt cfg dp speed = true ↔
    speed = cfg.speedMax ∨ ∃ d, dp = some d ∧ (cfg.hdrDpMax : Int) < d := by
  rw [atLimitAt, Bool.or_eq_true, headerHigh_iff, beq_iff_eq]

end

/-- The integral that the return of the index leaves (R135). -/
theorem coe_returnToRun_integral (cfg : ConfigSet) (k : Taken) (f : Figures) (m : Int) :
    ((returnToRun cfg k f m).integral : Int) =
      max 0 (min 10000 ((k.speed : Int) - proportional cfg.kp (plantError k.mTarget m) - shareTerm cfg k f)) :=
  coe_toNat_clamp_10000 _

/-- Settles O55: the rows of R123, each by its equation of the plant law. -/
theorem pumpModesCommitted : Obligations.PumpModesCommitted := by
  intro x cfg k f r law
  refine ⟨fun h => ?frozen, fun h => ?stopping, fun heard => ⟨fun standing off => ?stopped, fun standing on => ?start,
    fun run on lost => ?lost, fun run on found => ?run, fun holding on lost => ?holding, fun fallback on lost => ?fallback,
    fun m p sh a away on found hp hsh => ?back⟩, fun stopped stopping => ?limit⟩
  case frozen =>
    rw [law, plantLaw_of_frozen h]
    exact ⟨rfl, rfl, rfl, rfl⟩
  case stopping =>
    rw [law, plantLaw_of_stopping h]
    exact ⟨rfl, rfl, rfl, stopStep_speed_of_above, stopStep_speed_of_low, stopStep_mode⟩
  case stopped =>
    rw [law, plantLaw_of_heard heard, pumpLaw_of_standing standing, if_neg (by simp [off])]
    exact ⟨rfl, rfl, rfl, rfl, rfl⟩
  case start =>
    rw [law, plantLaw_of_heard heard, pumpLaw_of_standing standing, if_pos on]
    exact ⟨rfl, rfl, rfl, rfl⟩
  case lost =>
    rw [law, plantLaw_of_heard heard, pumpLaw_of_lost run on lost]
    exact ⟨rfl, rfl, rfl, rfl⟩
  case run =>
    obtain ⟨⟨m, a⟩, index⟩ := Option.isSome_iff_exists.mp found
    rw [law, plantLaw_of_run heard run on index]
    exact ⟨rfl, rfl⟩
  case holding =>
    rw [law, plantLaw_of_heard heard, pumpLaw_of_holding holding on lost, holdSpeed]
    refine ⟨?_, ?_, fun short => ?_, fun full => ?_⟩
    · split <;> rfl
    · split <;> rfl
    · rw [if_pos short]
      exact ⟨rfl, rfl⟩
    · rw [if_neg (by omega)]
      exact ⟨rfl, rfl⟩
  case fallback =>
    rw [law, plantLaw_of_heard heard, pumpLaw_of_fallback fallback on lost]
    refine ⟨rfl, rfl, rfl, fun y hy => ⟨fun low => ?_, fun d hd high => ?_⟩⟩
    · rw [fallbackStep_speed hy, if_neg (by rw [headerHigh_eq_false_iff.mpr low]; decide)]
    · rw [fallbackStep_speed hy, if_pos (headerHigh_iff.mpr ⟨d, hd, high⟩)]
  case back =>
    have share : sh = shareTerm cfg k f := by
      cases flow : k.flow with
      | none => rw [hsh, flow, shareTerm_of_no_flow flow]
      | some own => rw [hsh, flow, shareTerm_of_flow flow]
    rw [law, plantLaw_of_heard heard, pumpLaw_of_return away on found]
    refine ⟨rfl, rfl, rfl, ?_⟩
    rw [coe_returnToRun_integral, hp, share, proportional_eq, plantError_eq]
  case limit => rw [law] at stopped stopping ⊢; rw [plantLaw_limited stopped stopping, atLimitAt_iff]

/-- Settles O56: the integral that the return leaves makes the demand of the next computation the speed held. -/
theorem returnIsBumpless : Obligations.ReturnIsBumpless := by
  intro x cfg k k2 f r m p sh a heard away on found law ok top hp hsh low high step hk2
  have back : r = returnToRun cfg k f m := by rw [law, plantLaw_of_heard heard, pumpLaw_of_return away on found]
  have speed : r.speed = k.speed := by rw [back]; rfl
  have integral : (r.integral : Int) = k.speed - p - sh := by
    rw [back, coe_returnToRun_integral, ← hp, ← hsh]
    omega
  have next : plantLaw x cfg k2 f = runLaw cfg k2 f m :=
    plantLaw_of_run heard (by rw [hk2, back]; rfl) (by rw [hk2]; exact on) found cfg
  have error : plantError k2.mTarget m = plantError k.mTarget m := by rw [hk2]
  have taken : k2.speed = k.speed := by rw [hk2]; exact speed
  have taken_integral : k2.integral = r.integral := by rw [hk2]
  have share : shareTerm cfg k2 f = sh := by rw [hsh, hk2]; rfl
  have kept : (nextIntegral cfg k2 (plantError k2.mTarget m) : Int) = r.integral := by
    rw [coe_nextIntegral, error, step, if_neg (by omega), taken_integral]
    omega
  have demand : runDemand cfg k2 f m = k.speed := by
    obtain ⟨hmin, hmax⟩ := ok
    unfold runDemand
    dsimp only
    rw [kept, error, ← hp, share, sat16]
    omega
  have held : ((runLaw cfg k2 f m).speed : Int) = k.speed := by
    rw [runLaw_speed (by rw [taken]; exact ok), demand, taken, min_self, ite_self, coe_toNat_rampFrom (by omega)]
    omega
  refine ⟨speed, integral, ?_, ?_⟩ <;> rw [next]
  · exact Int.ofNat_inj.mp held
  · exact Int.ofNat_inj.mp kept

end Sys2Proof.Machine
end

section

/-! LEMMAS. The Valve Drive: targets by drive state, and the ends of pulses, of dwell and of seeks (O59, O60; R153 to R163). -/

namespace Sys2Proof.Machine

/-! ### Demanded pulses and targets (R155 to R159) -/

/-- The pulse a target demands, its length in whole ms to nearest (R155). -/
theorem demanded_eq {cfg : ConfigSet} {e target gap length : Nat}
    (hgap : gap = if e ≤ target then target - e else e - target) (hlength : length = (2 * (gap * cfg.travelTime) + 10) / 20) :
    demanded cfg e target =
      if target = 0 then some ⟨.closing, .toEnd, length + cfg.travelTime * 100⟩
      else if target = 10000 then some ⟨.opening, .toEnd, length + cfg.travelTime * 100⟩
      else if gap ≤ cfg.deadband ∨ length < cfg.minPulse then none
      else some ⟨if e < target then .opening else .closing, .trim, length⟩ := by
  have rounded : (roundDiv ((gap * cfg.travelTime : Nat) : Int) 10).toNat = length := by
    rw [hlength]
    unfold roundDiv
    omega
  unfold demanded
  dsimp only
  rw [← hgap, rounded, ite_or]

theorem ValveDrive.seeking_iff (v : ValveDrive) : v.seeking = true ↔
    (∃ p, v.drive = .pulsing p ∧ p.kind = .seek) ∨ ∃ w, v.drive = .dwelling (some w) ∧ w.kind = .seek := by
  unfold ValveDrive.seeking
  rcases v.drive with _ | p | (_ | w) <;> simp

section
variable {v : ValveDrive} {cfg : ConfigSet} {target : Nat}

theorem ValveDrive.target_of_seeking (h : v.seeking = true) : v.target cfg target = { v with pending := some target } :=
  if_pos h

/-- A target is acted on from the estimate as it is once a pulse in flight is reckoned. -/
theorem ValveDrive.target_of_known {e : Nat} (h : v.seeking = false) (he : (v.upToDate cfg).estimate = some e) :
    v.target cfg target = (v.upToDate cfg).act cfg target e := by
  unfold ValveDrive.target
  rw [if_neg (by simp [h])]
  dsimp only
  rw [he]

theorem ValveDrive.target_of_unknown (still : ∀ p, v.drive ≠ .pulsing p) (h : v.seeking = false) (he : v.estimate = none) :
    v.target cfg target = { v.beginSeek cfg with pending := some target } := by
  unfold ValveDrive.target
  rw [if_neg (by simp [h]), ValveDrive.upToDate_of_not_pulsing still]
  dsimp only
  rw [he]

/-- With no pulse in flight a target acts from the estimate as it is. -/
theorem ValveDrive.target_of_still {e : Nat} (still : ∀ p, v.drive ≠ .pulsing p) (h : v.seeking = false)
    (he : v.estimate = some e) : v.target cfg target = v.act cfg target e := by
  have reckoned := ValveDrive.upToDate_of_not_pulsing still cfg
  rw [ValveDrive.target_of_known (e := e) h (by rw [reckoned, he]), reckoned]

/-! What a target does from a known estimate (R156 to R158). -/

theorem ValveDrive.act_of_idle_none {e : Nat} (hd : v.drive = .idle) (none_ : demanded cfg e target = none) :
    v.act cfg target e = v := by
  simp only [ValveDrive.act, hd, none_]

theorem ValveDrive.act_of_dwelling_none {e : Nat} {x : Option Demand} (hd : v.drive = .dwelling x)
    (none_ : demanded cfg e target = none) : v.act cfg target e = { v with drive := .dwelling none } := by
  simp only [ValveDrive.act, hd, none_]

theorem ValveDrive.act_of_still_some {e : Nat} {w : Demand} (hd : v.drive = .idle ∨ ∃ x, v.drive = .dwelling x)
    (want : demanded cfg e target = some w) : v.act cfg target e = v.beginOrWait cfg w := by
  rcases hd with hd | ⟨x, hd⟩ <;> simp only [ValveDrive.act, hd, want]

theorem ValveDrive.act_of_pulsing_none {e : Nat} {p : Pulse} (hd : v.drive = .pulsing p)
    (none_ : demanded cfg e target = none) :
    v.act cfg target e = ⟨v.estimate, .idle, v.pending, p.direction.asEnd, 0⟩ := by
  simp only [ValveDrive.act, hd, none_]
  rfl

theorem ValveDrive.act_of_pulsing_same {e : Nat} {p : Pulse} {w : Demand} (hd : v.drive = .pulsing p)
    (want : demanded cfg e target = some w) (same : w.direction = p.direction) : v.act cfg target e =
      { v with drive := .pulsing { p with kind := w.kind, length := p.timer / 8000 + w.length } } := by
  simp only [ValveDrive.act, hd, want, same, if_true]
  rfl

theorem ValveDrive.act_of_pulsing_other {e : Nat} {p : Pulse} {w : Demand} (hd : v.drive = .pulsing p)
    (want : demanded cfg e target = some w) (other : w.direction ≠ p.direction) :
    v.act cfg target e = ⟨v.estimate, .dwelling (some w), v.pending, p.direction.asEnd, 0⟩ := by
  simp only [ValveDrive.act, hd, want, other, if_false]
  rfl

end

/-- Settles O60: the target by what the drive is doing, the demanded pulse by `demanded_eq`. -/
theorem targetsActedOn : Obligations.TargetsActedOn := by
  intro cfg v target
  refine ⟨v.seeking_iff, ValveDrive.target_of_seeking, fun still h he => ?_, ?_⟩
  · refine ValveDrive.target_of_unknown (fun p hp => ?_) h he
    rcases still with hd | ⟨w, hd⟩ <;> rw [hd] at hp <;> cases hp
  intro e gap length want hgap hlength hwant
  have demand : demanded cfg e target = want := (demanded_eq hgap hlength).trans hwant.symm
  refine ⟨fun hd he none_ => ?_, fun w hd h he some_ => ?_, fun x hd h he none_ => ?_, fun p e0 hd trim start reckoned => ?_⟩
  · have rest : v.seeking = false := by simp [ValveDrive.seeking, hd]
    rw [ValveDrive.target_of_still (by simp [hd]) rest he, ValveDrive.act_of_idle_none hd (demand.trans none_)]
  · have still : ∀ p, v.drive ≠ .pulsing p := by
      intro p hp
      rcases hd with hd | ⟨x, hd⟩ <;> rw [hd] at hp <;> cases hp
    rw [ValveDrive.target_of_still still h he, ValveDrive.act_of_still_some hd (demand.trans some_),
      ValveDrive.beginOrWait_eq, he]
    rfl
  · rw [ValveDrive.target_of_still (by simp [hd]) h he, ValveDrive.act_of_dwelling_none hd (demand.trans none_)]
  · have rest : v.seeking = false := by simp [ValveDrive.seeking, hd, trim]
    have estimate : (v.upToDate cfg).estimate = some e := by
      rw [ValveDrive.upToDate_eq, hd]
      refine (Pulse.reckon_eq_some start cfg).trans (congrArg some (Eq.trans ?_ reckoned.symm))
      cases p.direction <;> rfl
    have pulsing : (v.upToDate cfg).drive = .pulsing p := by rw [ValveDrive.upToDate_drive, hd]
    have spelled : v.upToDate cfg = { v with estimate := some e } := by rw [← estimate, ValveDrive.upToDate_eq]
    have acts : v.target cfg target = (v.upToDate cfg).act cfg target e := ValveDrive.target_of_known rest estimate
    refine ⟨fun none_ => ?_, fun w some_ same => ?_, fun w some_ other => ?_⟩
    · rw [acts, ValveDrive.act_of_pulsing_none pulsing (demand.trans none_), spelled]
    · rw [acts, ValveDrive.act_of_pulsing_same pulsing (demand.trans some_) same, spelled]
    · rw [acts, ValveDrive.act_of_pulsing_other pulsing (demand.trans some_) other, spelled]

/-! ### Ends (R160, R161, R163) -/

theorem State.pulseEnd_of_pulsing {s : State} {p : Pulse} (h : s.vd.drive = .pulsing p) (hk : p.kind ≠ .seek) :
    s.pulseEnd = { s.pass (p.length * 8000 - p.timer) with
      vd := (s.pass (p.length * 8000 - p.timer)).vd.pulseEnds s.cfg p } := by
  unfold State.pulseEnd
  rw [h]
  exact if_neg hk

theorem State.seekEnd_of_pulsing {s : State} {p : Pulse} (h : s.vd.drive = .pulsing p) (hk : p.kind = .seek) :
    s.seekEnd = { s.pass (p.length * 8000 - p.timer) with
      vd := (s.pass (p.length * 8000 - p.timer)).vd.seekEnds s.cfg p } := by
  unfold State.seekEnd
  rw [h]
  exact if_pos hk

theorem State.dwellEnd_of_dwelling {s : State} {w : Option Demand} (h : s.vd.drive = .dwelling w) :
    s.dwellEnd = { s.pass (s.cfg.dwell * 8000 - s.vd.dwellTimer) with
      vd := (s.pass (s.cfg.dwell * 8000 - s.vd.dwellTimer)).vd.dwellEnds w } := by
  unfold State.dwellEnd
  rw [h]
  rfl

/-- A pending target is acted on as at IDLE (R163). -/
theorem ValveDrive.seekEnds_of_pending {v : ValveDrive} {target : Nat} (h : v.pending = some target) (cfg : ConfigSet)
    (p : Pulse) : v.seekEnds cfg p =
      ValveDrive.target cfg target ⟨some p.direction.endValue, .idle, none, p.direction.asEnd, 0⟩ := by
  unfold ValveDrive.seekEnds
  rw [h]
  rfl

theorem ValveDrive.seekEnds_of_none {v : ValveDrive} (h : v.pending = none) (cfg : ConfigSet) (p : Pulse) :
    v.seekEnds cfg p = ⟨some p.direction.endValue, .idle, none, p.direction.asEnd, 0⟩ := by
  unfold ValveDrive.seekEnds
  rw [h]
  rfl

theorem ValveDrive.pulseEnds_of_trim {p : Pulse} {e : Nat} (hk : p.kind = .trim) (start : p.start = some e) (cfg : ConfigSet)
    (v : ValveDrive) : v.pulseEnds cfg p = ⟨some (moved p.direction e (p.length * 10 / cfg.travelTime)), .idle, v.pending,
      p.direction.asEnd, 0⟩ := by
  unfold ValveDrive.pulseEnds Pulse.reckon
  rw [hk, start]
  rfl

theorem ValveDrive.pulseEnds_of_toEnd {p : Pulse} (hk : p.kind = .toEnd) (cfg : ConfigSet) (v : ValveDrive) :
    v.pulseEnds cfg p = ⟨some p.direction.endValue, .idle, v.pending, p.direction.asEnd, 0⟩ := by
  unfold ValveDrive.pulseEnds
  rw [hk]
  rfl

/-- Settles O59: each end by its equation, with the time up to it passed. -/
theorem valveEndsTaken : Obligations.ValveEndsTaken := by
  refine ⟨⟨rfl, rfl⟩, fun s running role => ⟨fun p d hd passed => ?_, fun w hd => ⟨_, rfl, ?_⟩⟩⟩
  · have pending : d.vd.pending = s.vd.pending := by rw [passed, State.pass_vd_of_customer role]; rfl
    have pulse : p.kind ≠ .seek → exec .pulseEnd s = .next { d with vd := d.vd.pulseEnds s.cfg p } := fun hk => by
      rw [passed]
      exact (State.event_of_running running _).trans (congrArg _ (State.pulseEnd_of_pulsing hd hk))
    have seek : p.kind = .seek → exec .seekEnd s = .next { d with vd := d.vd.seekEnds s.cfg p } := fun hk => by
      rw [passed]
      exact (State.event_of_running running _).trans (congrArg _ (State.seekEnd_of_pulsing hd hk))
    refine ⟨fun hk e start => (pulse (by simp [hk])).trans ?_, fun hk => (pulse (by simp [hk])).trans ?_,
      fun hk none_ => (seek hk).trans ?_, fun target hk some_ => (seek hk).trans ?_⟩
    · rw [ValveDrive.pulseEnds_of_trim hk start, pending]
      cases p.direction <;> rfl
    · rw [ValveDrive.pulseEnds_of_toEnd hk, pending]
      cases p.direction <;> rfl
    · rw [ValveDrive.seekEnds_of_none (pending.trans none_)]
      cases p.direction <;> rfl
    · rw [ValveDrive.seekEnds_of_pending (pending.trans some_)]
      cases p.direction <;> rfl
  · refine (State.event_of_running running _).trans (congrArg _ ((State.dwellEnd_of_dwelling hd).trans ?_))
    have estimate : (s.pass (s.cfg.dwell * 8000 - s.vd.dwellTimer)).vd.estimate = s.vd.estimate := by
      rw [State.pass_vd_of_customer role]
      rfl
    rw [← estimate]
    cases w <;> rfl

end Sys2Proof.Machine
end

section

/-! LEMMAS. The passing of time adds up, unit by unit (O7; R21, R32, R40, R56, R57, R85, R136, R154), and what the output
pins show of the state (O58; R136, R137, R152, R175). -/

namespace Sys2Proof.Machine

/-! ### Time passed twice -/

theorem FlowCaptureUnit.pass_pass (f : FlowCaptureUnit) (a b : Nat) : (f.pass a).pass b = f.pass (a + b) := by
  have micros : (f.fraction + a) / 8 + ((f.fraction + a) % 8 + b) / 8 = (f.fraction + (a + b)) / 8 := by omega
  simp only [FlowCaptureUnit.pass, usClocks, BitVec.add_assoc, ← BitVec.ofNat_add, micros]
  congr 1
  omega

theorem Transmitter.pass_pass (x : Transmitter) (a b : Nat) : (x.pass a).pass b = x.pass (a + b) := by
  cases x <;> simp [Transmitter.pass, Nat.add_assoc]

theorem Transmitter.isSending_pass (x : Transmitter) (a : Nat) : (x.pass a).isSending = x.isSending := by
  cases x <;> rfl

theorem LinkUnit.pass_pass (l : LinkUnit) (a b : Nat) : (l.pass a).pass b = l.pass (a + b) := by
  have later : (decide (l.quiet + a < idleClocks) && decide (l.quiet + (a + b) < idleClocks)) =
      decide (l.quiet + (a + b) < idleClocks) := by
    rw [← Bool.decide_and, decide_eq_decide]
    omega
  simp only [LinkUnit.pass, Transmitter.pass_pass, Transmitter.isSending_pass, Nat.add_assoc, Bool.and_assoc,
    ← Bool.or_and_distrib_left, later]

theorem PlantDrive.pass_pass (p : PlantDrive) (a b : Nat) : (p.pass a).pass b = p.pass (a + b) := by
  unfold PlantDrive.pass pwmClocks
  by_cases early : p.phase + a < 800
  · rw [if_pos early]
    simp only [Nat.add_assoc]
  · rw [if_neg early, if_neg (by omega : ¬p.phase + (a + b) < 800)]
    by_cases within : (p.phase + a) % 800 + b < 800
    · rw [if_pos within]
      congr 1
      dsimp only
      omega
    · rw [if_neg within]
      congr 1
      dsimp only
      omega

theorem Drive.pass_pass (d : Drive) (a b : Nat) : (d.pass a).pass b = d.pass (a + b) := by
  cases d <;> simp [Drive.pass, Nat.add_assoc]

theorem ValveDrive.pass_pass (v : ValveDrive) (a b : Nat) : (v.pass a).pass b = v.pass (a + b) := by
  simp only [ValveDrive.pass, Drive.pass_pass, Nat.add_assoc]

theorem State.pass_pass (s : State) (a b : Nat) : (s.pass a).pass b = s.pass (a + b) := by
  apply State.ext <;> try rfl
  case mu => simp only [State.pass, Nat.add_assoc]
  case fcu => exact s.fcu.pass_pass a b
  case lu => exact s.lu.pass_pass a b
  case cu =>
    unfold State.pass
    cases s.cu.timer <;> simp [Nat.add_assoc]
  case pd =>
    cases hr : s.sc.role with
    | plant => rw [State.pass_pd_of_plant (s := s.pass a) hr, State.pass_pd_of_plant hr, State.pass_pd_of_plant hr, PlantDrive.pass_pass]
    | customer => rw [State.pass_pd_of_customer (s := s.pass a) hr, State.pass_pd_of_customer hr, State.pass_pd_of_customer hr]
  case vd =>
    cases hr : s.sc.role with
    | plant => rw [State.pass_vd_of_plant (s := s.pass a) hr, State.pass_vd_of_plant hr, State.pass_vd_of_plant hr]
    | customer =>
      rw [State.pass_vd_of_customer (s := s.pass a) hr, State.pass_vd_of_customer hr, State.pass_vd_of_customer hr, ValveDrive.pass_pass]

theorem pwmHigh_eq (speed : Nat) : pwmHigh speed = (2 * speed * 800 + 10000) / 20000 := by
  unfold pwmHigh pwmClocks
  congr 1
  omega

/-- Settles O7: `State.pass_pass`, and the fields of `State.pass` one by one. -/
theorem timePassesAdditively : Obligations.TimePassesAdditively := by
  intro s a b
  refine ⟨s.pass_pass a b, ?_⟩
  apply State.ext <;> try rfl
  case pd =>
    cases hr : s.sc.role with
    | plant =>
      rw [State.pass_pd_of_plant hr, PlantDrive.pass, pwmHigh_eq]
      rfl
    | customer =>
      rw [State.pass_pd_of_customer hr]
      rfl
  case vd =>
    cases hr : s.sc.role with
    | plant =>
      rw [State.pass_vd_of_plant hr]
      rfl
    | customer =>
      rw [State.pass_vd_of_customer hr, ValveDrive.pass]
      cases s.vd.drive <;> rfl

/-! ### The pins -/

/-- The levels of a frame on the line, character by character (R41, R42). -/
theorem Frame.levels_eq (f : Frame) : f.levels = ((0xC3 : Byte) :: f.characters).flatMap
    (fun c => false :: (List.range 8).map (fun n => c.getLsbD n) ++ [true]) := rfl

/-- The high time that a new PWM period takes, to nearest (R136). -/
theorem PlantDrive.pass_of_full {p : PlantDrive} {d : Nat} (h : 800 ≤ p.phase + d) :
    2 * 10000 * (p.pass d).high ≤ 2 * p.command * 800 + 10000 ∧
    2 * p.command * 800 + 10000 < 2 * 10000 * ((p.pass d).high + 1) ∧ (p.pass d).phase < 800 := by
  unfold PlantDrive.pass pwmClocks
  rw [if_neg (by omega), pwmHigh_eq]
  dsimp only
  omega

theorem State.ltx_of_silent {s : State} (h : s.lu.transmitter.isSending = false) : s.ltx = true := by
  unfold State.ltx
  cases ht : s.lu.transmitter with
  | sending o t => rw [ht] at h; cases h
  | idle => rfl
  | waiting slot k gap => rfl

theorem State.ltx_of_sending {s : State} {o : Outgoing} {t : Nat} (running : s.inReset = false)
    (h : s.lu.transmitter = .sending o t) : s.ltx = o.frame.levels.getD (t * 3 / 625) true := by
  unfold State.ltx
  rw [h]
  exact if_neg (by simp [running])

/-- Settles O58: the two pins of each drive, the PWM period, ATTN, and LTX. -/
theorem outputsFollowState : Obligations.OutputsFollowState := by
  refine ⟨fun s running role => ?_, fun s running role => ?_, fun d s role phase full => ?_, State.attn_eq_true_iff,
    fun s running => ⟨State.ltx_of_silent, fun o τ levels sending hl => ?_⟩⟩
  · simp [State.outA, State.outB, running, role]
  · simp only [State.outA, State.outB, running, role]
    exact ⟨ValveDrive.drives_iff, ValveDrive.drives_iff⟩
  · rw [State.pass_pd_of_plant role]
    exact PlantDrive.pass_of_full full
  · rw [State.ltx_of_sending running sending, Frame.levels_eq, hl]

end Sys2Proof.Machine
end

section

/-! LEMMAS. Responses and the records of Tables 11.8, 11.9 and 11.11 (O24; R169, R171, R181). A record is a concatenation of
fields of fixed length, so the bytes at an offset are by computation those of the field that stands there; the lemmas say
what the bytes of one field give back. -/

namespace Sys2Proof.Machine

/-! ### One field -/

section
variable {b full rest : List Byte} {off : Nat}

theorem valueAt_be16 {x : Int} (hb : b = full) (h : full.drop off = be16 x ++ rest) :
    (valueAt b off 2 : Int) = x % 65536 := by
  obtain ⟨high, low, bytes, value⟩ := be16_value x
  rw [valueAt, hb, h, bytes, ← value]
  simp

theorem valueAt_be16_nat {n : Nat} (hb : b = full) (h : full.drop off = be16 n ++ rest) :
    valueAt b off 2 = n % 65536 := by
  have := valueAt_be16 hb h
  omega

theorem valueAt_be32 {n : Nat} (hb : b = full) (h : full.drop off = be32 n ++ rest) :
    valueAt b off 4 = n % 4294967296 := by
  obtain ⟨_, _, _, _, bytes, value⟩ := be32_value n
  rw [valueAt, hb, h, bytes, ← value]
  simp

theorem valueAt_cons {x : Byte} (hb : b = full) (h : full.drop off = x :: rest) : valueAt b off 1 = x.toNat := by
  rw [valueAt, hb, h]
  simp

theorem valueAt_byte {n : Nat} (hb : b = full) (h : full.drop off = byte n :: rest) : valueAt b off 1 = n % 256 :=
  (valueAt_cons hb h).trans (by simp [byte])

theorem valueAt_code {n : Nat} (hn : n < 256) (hb : b = full) (h : full.drop off = byte n :: rest) :
    valueAt b off 1 = n :=
  (valueAt_byte hb h).trans (Nat.mod_eq_of_lt hn)

theorem flagsAt_flagByte {bs : List Bool} (hb : b = full) (h : full.drop off = flagByte bs :: rest)
    (short : bs.length ≤ 8 := by simp) : flagsAt b off bs := by
  intro k hk
  have here : b.getD off 0 = flagByte bs := by
    have := congrArg List.head? h
    rw [List.head?_drop] at this
    simp [List.getD, hb, this]
  rw [here, flagByte_getLsbD bs short k hk]

end

/-! ### Codes (R181) -/

theorem StationState.code_lt (x : StationState) : x.code < 256 := by cases x <;> decide
theorem ChannelState.code_lt (x : ChannelState) : x.code < 4 := by cases x <;> decide
theorem PumpMode.code_lt (x : PumpMode) : x.code < 256 := by cases x <;> decide
theorem LastEnd.code_lt (x : LastEnd) : x.code < 256 := by cases x <;> decide

theorem pulseCode_toNat (d : Direction) (k : PulseKind) : (pulseCode d k).toNat = d.code + 4 * k.code := by
  cases d <;> cases k <;> rfl

theorem CycleState.code_lt (x : CycleState) : x.code < 256 := by unfold CycleState.code; split <;> decide
theorem Receiver.code_lt (x : Receiver) : x.code < 256 := by unfold Receiver.code; split <;> decide
theorem Transmitter.code_lt (x : Transmitter) : x.code < 256 := by unfold Transmitter.code; split <;> decide
theorem Drive.code_lt (x : Drive) : x.code < 256 := by
  unfold Drive.code
  split
  · decide
  · split <;> decide
  · decide

/-! ### Blocks of a record -/

/-- The states of the four channels in one byte, two bits each (Table 11.8). -/
theorem channelStates_value {b full rest : List Byte} {off : Nat} {st : Four ChannelState} (hb : b = full)
    (h : full.drop off = byte (st.c0.code + 4 * st.c1.code + 16 * st.c2.code + 64 * st.c3.code) :: rest) (n : Fin 4) :
    valueAt b off 1 / 4 ^ (n : Nat) % 4 = (st.get n).code := by
  have h0 := st.c0.code_lt
  have h1 := st.c1.code_lt
  have h2 := st.c2.code_lt
  have h3 := st.c3.code_lt
  rw [valueAt_byte hb h]
  match n with
  | 0 => simp [Four.get]; omega
  | 1 => simp [Four.get]; omega
  | 2 => simp [Four.get]; omega
  | 3 => simp [Four.get]; omega

/-- A channel block (Table 11.11). -/
theorem channelBlock {b full rest : List Byte} {off : Nat} {c : Channel} (hb : b = full)
    (h : full.drop off = c.bytes ++ rest) :
    valueAt b off 1 = c.state.code ∧ flagsAt b (off + 1) [c.raw.isSome, c.filtered.isSome] ∧
    valueAt b (off + 2) 2 = (c.raw.getD 0).toNat ∧ (valueAt b (off + 4) 2 : Int) = c.filtered.getD 0 % 65536 ∧
    valueAt b (off + 6) 2 = c.faultHold % 65536 ∧ valueAt b (off + 8) 1 = c.recovery % 256 := by
  have field : ∀ k, full.drop (off + k) = (c.bytes ++ rest).drop k := fun k => by rw [← h, List.drop_drop]
  refine ⟨valueAt_code (c.state.code_lt.trans (by decide)) hb h, flagsAt_flagByte hb (field 1), ?_,
    valueAt_be16 hb (field 4), valueAt_be16_nat hb (field 6), valueAt_byte hb (field 8)⟩
  refine (valueAt_be16_nat hb (field 2)).trans ?_
  cases c.raw with
  | none => rfl
  | some code => exact Nat.mod_eq_of_lt (code.isLt.trans (by decide))

/-- Settles O24: each clause is the field that stands at its offset. -/
theorem responsesAndRecords : Obligations.ResponsesAndRecords := by
  refine ⟨fun r => ⟨byteSum_append_neg _, ?length, ?data⟩, ?codes, fun s b hb => ?station, fun r b hb => ?figures,
    fun e b hb => ?entry, fun t => ?list, fun k => ⟨?counters, rfl⟩⟩
  case length => simp [Response.bytes]
  case data => simp [Response.bytes, byte]
  case codes => exact ⟨rfl, rfl, rfl, rfl, rfl, rfl, rfl, rfl, rfl, rfl⟩
  case station =>
    have length : b.length = 87 := by
      rw [hb]
      simp [State.stationRecord, ValveDrive.bytes, Channel.bytes, Four.toList, be16, be32]
    simp only [State.stationRecord, ValveDrive.bytes, Four.toList, List.flatMap_cons, List.flatMap_nil,
      List.cons_append, List.nil_append, List.append_assoc] at hb
    have drive : valueAt b 68 1 = s.vd.drive.code := valueAt_code s.vd.drive.code_lt hb rfl
    have pulse : valueAt b 69 1 = ((s.vd.pulse.map fun p => pulseCode p.direction p.kind).getD 0).toNat ∧
        valueAt b 70 4 = (s.vd.pulse.map (·.ms)).getD 0 % 4294967296 ∧
        valueAt b 74 4 = (s.vd.pulse.map (·.length)).getD 0 % 4294967296 :=
      ⟨valueAt_cons hb rfl, valueAt_be32 hb rfl, valueAt_be32 hb rfl⟩
    have waiting : valueAt b 78 1 = ((s.vd.waitingPulse.map fun w => pulseCode w.direction w.kind).getD 0).toNat ∧
        valueAt b 79 4 = (s.vd.waitingPulse.map (·.length)).getD 0 % 4294967296 :=
      ⟨valueAt_cons hb rfl, valueAt_be32 hb rfl⟩
    refine ⟨length, by rw [hb]; rfl, flagsAt_flagByte hb rfl, valueAt_be16_nat hb rfl, valueAt_be16_nat hb rfl,
      (valueAt_code s.cu.state.code_lt hb rfl).trans ?_, fun n c hc => ?_,
      flagsAt_flagByte hb rfl, valueAt_be32 hb rfl, valueAt_be16_nat hb rfl,
      (valueAt_code s.lu.receiver.code_lt hb rfl).trans ?_, (valueAt_code s.lu.transmitter.code_lt hb rfl).trans ?_,
      flagsAt_flagByte hb rfl, valueAt_cons hb rfl, valueAt_byte hb rfl, valueAt_byte hb rfl,
      valueAt_code s.fe.mode.code_lt hb rfl, valueAt_be16_nat hb rfl, valueAt_be16_nat hb rfl, flagsAt_flagByte hb rfl,
      valueAt_be16_nat hb rfl, fun hd => ?_, fun w hd => ?_, fun p hd => ?_, fun none_ => ?_, fun p some_ => ?_,
      fun none_ => ?_, fun w some_ => ?_, valueAt_be16_nat hb rfl, valueAt_code s.vd.lastEnd.code_lt hb rfl,
      by rw [hb]; rfl⟩
    · cases s.cu.state <;> rfl
    · subst hc
      match n with
      | 0 => exact channelBlock hb rfl
      | 1 => exact channelBlock hb rfl
      | 2 => exact channelBlock hb rfl
      | 3 => exact channelBlock hb rfl
    · cases s.lu.receiver <;> rfl
    · cases s.lu.transmitter <;> rfl
    · exact ⟨drive.trans (by rw [hd]; rfl), by simp [ValveDrive.pulse, hd], by simp [ValveDrive.waitingPulse, hd]⟩
    · exact ⟨drive.trans (by rw [hd]; rfl), by simp [ValveDrive.pulse, hd], by simp [ValveDrive.waitingPulse, hd]⟩
    · refine ⟨by simp [ValveDrive.pulse, hd], by simp [ValveDrive.waitingPulse, hd], drive.trans ?_⟩
      rw [hd]
      cases hk : p.kind <;> cases hp : p.direction <;> simp [Drive.code, hk, hp]
    · rw [none_] at pulse
      exact pulse
    · rw [some_] at pulse
      exact ⟨pulse.1.trans (pulseCode_toNat _ _), pulse.2⟩
    · rw [none_] at waiting
      exact waiting
    · rw [some_] at waiting
      exact ⟨waiting.1.trans (pulseCode_toNat _ _), waiting.2⟩
  case figures =>
    have length : b.length = 36 + r.results.bytes.length := by
      rw [hb]
      simp [FiguresRecord.bytes, Four.toList, be16, be32]
      omega
    simp only [FiguresRecord.bytes, Four.toList, List.flatMap_cons, List.flatMap_nil, List.cons_append, List.nil_append,
      List.append_assoc] at hb
    have margin : (valueAt b 26 2 : Int) = (r.index.map (·.1)).getD 0 % 65536 := valueAt_be16 hb rfl
    have address : valueAt b 28 1 = (r.index.map (·.2)).getD 0 % 256 := valueAt_byte hb rfl
    refine ⟨by rw [hb]; rfl, valueAt_code r.stationState.code_lt hb rfl, by rw [hb]; rfl,
      flagsAt_flagByte hb rfl (by simp [Four.toList]),
      fun n => ⟨channelStates_value (st := r.channelStates) hb rfl n, ?_⟩, flagsAt_flagByte hb rfl, flagsAt_flagByte hb rfl,
      valueAt_be16_nat hb rfl, valueAt_be16 hb rfl, valueAt_be16 hb rfl, valueAt_be16 hb rfl, valueAt_be16_nat hb rfl,
      valueAt_byte hb rfl, fun none_ => ?_, fun m a some_ => ?_, valueAt_byte hb rfl, valueAt_be32 hb rfl,
      valueAt_be16_nat hb rfl, fun mode v i atLimit plant => ?_, fun request cap target customer => ?_⟩
    · match n with
      | 0 => exact valueAt_be16 hb rfl
      | 1 => exact valueAt_be16 hb rfl
      | 2 => exact valueAt_be16 hb rfl
      | 3 => exact valueAt_be16 hb rfl
    · rw [none_] at margin address
      exact ⟨Int.ofNat_inj.mp margin, address⟩
    · rw [some_] at margin address
      exact ⟨margin, address⟩
    · rw [plant] at hb length
      exact ⟨length, flagsAt_flagByte hb rfl, valueAt_code mode.code_lt hb rfl, valueAt_be16_nat hb rfl, valueAt_be16_nat hb rfl⟩
    · rw [customer] at hb length
      exact ⟨length, flagsAt_flagByte hb rfl, valueAt_be16_nat hb rfl, valueAt_be16_nat hb rfl, valueAt_be16_nat hb rfl⟩
  case entry =>
    simp only [Entry.bytes, List.cons_append, List.nil_append, List.append_assoc] at hb
    exact ⟨by rw [hb]; rfl, by rw [hb]; rfl, flagsAt_flagByte hb rfl, flagsAt_flagByte hb rfl, valueAt_be16_nat hb rfl,
      valueAt_be16 hb rfl, valueAt_be16_nat hb rfl, valueAt_be16 hb rfl, valueAt_be16_nat hb rfl, valueAt_byte hb rfl,
      valueAt_byte hb rfl, valueAt_be16_nat hb rfl⟩
  case list => simp [PeerTable.listBytes, Entry.item, Nat.mul_comm, Nat.add_comm]
  case counters => rfl

end Sys2Proof.Machine
end

section

/-! LEMMAS. A step, idling, and hard reset (O1, O2, O4, O5, O6; R1, R3, R5, R7, R178). -/

namespace Sys2Proof.Machine

/-- Settles O1, by the definition of a step. -/
theorem stepRunsCommandAtFront : Obligations.StepRunsCommandAtFront := by
  intro s c rest h
  rw [step, h]

/-! ### The events that are due -/

section
variable (s : State)

theorem State.dueEvents_mem_iff : (Instr.boundary ∈ s.dueEvents ↔ s.boundaryDue = true) ∧
    (Instr.computationCompletion ∈ s.dueEvents ↔ s.completionDue = true) ∧
    (Instr.flowTimeout ∈ s.dueEvents ↔ s.flowTimeoutDue = true) ∧
    (Instr.quietTimeIdle ∈ s.dueEvents ↔ s.idleLineDue = true) ∧
    (Instr.accessGapComplete ∈ s.dueEvents ↔ s.accessGapDue = true) ∧
    (Instr.pulseEnd ∈ s.dueEvents ↔ s.pulseEndDue = true) ∧
    (Instr.seekEnd ∈ s.dueEvents ↔ s.seekEndDue = true) ∧
    (Instr.dwellEnd ∈ s.dueEvents ↔ s.dwellEndDue = true) := by
  simp [State.dueEvents]

theorem State.boundaryDue_iff : s.boundaryDue = true ↔ (∀ k, s.cu.state ≠ .calc k) ∧
    ∃ τ, s.cu.timer = some τ ∧ s.cfg.cyclePeriod * 8000 ≤ τ := by
  unfold State.boundaryDue
  rcases s.cu.state with _ | k | _ | _ <;> simp [Option.any_eq_true] <;> rfl

theorem State.completionDue_iff : s.completionDue = true ↔ (∃ k, s.cu.state = .calc k) ∧
    ∃ τ, s.cu.timer = some τ ∧ (2 + s.pt.entries.length) * 8000 ≤ τ := by
  unfold State.completionDue
  rcases s.cu.state with _ | k | _ | _ <;> simp [Option.any_eq_true]
  rfl

theorem State.flowTimeoutDue_iff : s.flowTimeoutDue = true ↔ s.fcu.seenEdge = true ∧
    s.cfg.flowTimeout * 1000000 ≤ (s.fcu.counter - s.fcu.lastCapture.getD 0).toNat := by
  simp only [State.flowTimeoutDue, Bool.and_eq_true, decide_eq_true_eq]
  rfl

theorem State.idleLineDue_iff : s.idleLineDue = true ↔
    (s.lu.receiver = .discard ∨ ∃ own cs, s.lu.receiver = .collect own cs) ∧ 4167 ≤ s.lu.quiet := by
  unfold State.idleLineDue
  cases s.lu.receiver <;> simp <;> rfl

theorem State.accessGapDue_iff : s.accessGapDue = true ↔ ∃ slot k gap, s.lu.transmitter = .waiting slot k gap ∧
    (s.lu.slot slot).isSome = true ∧ ((3 + k) * 6250 + 2) / 3 ≤ gap := by
  unfold State.accessGapDue
  cases s.lu.transmitter <;> simp [gapClocks_eq]

theorem State.pulseEndDue_iff : s.pulseEndDue = true ↔
    ∃ p, s.vd.drive = .pulsing p ∧ p.kind ≠ .seek ∧ p.length * 8000 ≤ p.timer := by
  simp [State.pulseEndDue, Option.any_eq_true, ValveDrive.pulse_eq_some]
  rfl

theorem State.seekEndDue_iff : s.seekEndDue = true ↔
    ∃ p, s.vd.drive = .pulsing p ∧ p.kind = .seek ∧ p.length * 8000 ≤ p.timer := by
  simp [State.seekEndDue, Option.any_eq_true, ValveDrive.pulse_eq_some]
  rfl

theorem State.dwellEndDue_iff : s.dwellEndDue = true ↔
    (∃ w, s.vd.drive = .dwelling w) ∧ s.cfg.dwell * 8000 ≤ s.vd.dwellTimer := by
  unfold State.dwellEndDue
  cases s.vd.drive <;> simp [ValveDrive.dwellReached]
  rfl

/-- Of several due events one is taken, chosen by the free value (assumption log 3). -/
theorem State.idle_of_due (running : s.inReset = false) (due : s.dueEvents ≠ []) :
    ∃ c ∈ s.dueEvents, ∃ n, s.idle = exec c { s with ties := n } := by
  unfold State.idle
  rw [if_neg (by simp [running])]
  rcases hd : s.dueEvents with _ | ⟨c, _ | ⟨d, cs⟩⟩
  · exact absurd hd due
  · exact ⟨c, by simp, s.ties, rfl⟩
  · refine ⟨_, ?_, s.ties + 1, rfl⟩
    have short : Config.tieBreak s.ties % ((d :: cs).length + 1) < (c :: d :: cs).length := Nat.mod_lt _ (by simp)
    rw [List.getD_eq_getElem _ _ short]
    exact List.getElem_mem _

end

/-- Settles O2: what a step does on an empty queue, and when each timed event is due. -/
theorem emptyQueueIdles : Obligations.EmptyQueueIdles := by
  intro s empty
  have idles : step s = s.idle := by rw [step, empty]
  obtain ⟨boundary, completion, timeout, quiet, gap, pulse, seek, dwell⟩ := s.dueEvents_mem_iff
  refine ⟨fun reset => ?_, fun running none_ => ?_, fun running due => ?_, fun c hc => ?_, boundary.trans s.boundaryDue_iff,
    completion.trans s.completionDue_iff, timeout.trans s.flowTimeoutDue_iff, quiet.trans s.idleLineDue_iff,
    gap.trans s.accessGapDue_iff, pulse.trans s.pulseEndDue_iff, seek.trans s.seekEndDue_iff, dwell.trans s.dwellEndDue_iff⟩
  · rw [idles, State.idle, if_pos reset]
  · rw [idles, State.idle, if_neg (by simp [running]), none_]
  · rw [idles]
    exact s.idle_of_due running due
  · obtain ⟨⟨due, d⟩, listed, taken⟩ := List.mem_filterMap.mp hc
    have same : d = c := by
      dsimp only at taken
      split at taken
      · exact Option.some.inj taken
      · cases taken
    subst same
    exact (List.mem_map_of_mem listed : (due, d).2 ∈ _)

/-! ### Hard reset -/

/-- Settles O4: HARD_RESET leaves the values of `State.reset`, with the queue as it was. -/
theorem hardResetValues : Obligations.HardResetValues := by
  intro s
  refine ⟨s.hardReset, rfl, ⟨rfl, rfl, ⟨rfl, rfl, rfl, rfl, rfl⟩, ⟨rfl, rfl⟩, ⟨rfl, rfl, rfl, rfl, rfl⟩,
    ⟨rfl, rfl, rfl, rfl, rfl, rfl⟩, ⟨rfl, rfl⟩, ⟨rfl, rfl⟩, ⟨rfl, rfl, rfl, rfl, rfl, rfl, rfl, rfl, rfl⟩, rfl,
    ⟨rfl, rfl, rfl, rfl, rfl⟩, ⟨rfl, rfl, rfl, rfl⟩⟩, ⟨rfl, rfl, rfl, rfl, fun _ => rfl⟩, rfl, ?_⟩
  have defaults : ∀ row ∈ parameterTable, ConfigSet.defaults.value row.2.1 = row.2.2.2.2 := by decide
  exact fun id p lo hi d listed => defaults (id, p, lo, hi, d) listed

/-- Settles O5: the state after reset is what a hard reset leaves of it, which each invariant's proof found lawful. -/
theorem resetIsLawful : Obligations.ResetIsLawful := by
  have reset : State.reset.hardReset = State.reset := rfl
  refine ⟨⟨rfl, rfl, ⟨rfl, rfl, rfl, rfl, rfl⟩, ⟨rfl, rfl⟩, ⟨rfl, rfl, rfl, rfl, rfl⟩,
    ⟨rfl, rfl, rfl, rfl, rfl, rfl⟩, ⟨rfl, rfl⟩, ⟨rfl, rfl⟩, ⟨rfl, rfl, rfl, rfl, rfl, rfl, rfl, rfl, rfl⟩, rfl,
    ⟨rfl, rfl, rfl, rfl, rfl⟩, ⟨rfl, rfl, rfl, rfl⟩⟩, rfl, State.reset.hardReset_tableLaw, State.entryLaw_iff.mpr State.reset.hardReset_fits,
    State.reset.hardReset_configLaw, State.reset.hardReset_speedLaw, State.reset.hardReset_yieldLaw, ⟨nofun, nofun⟩, ?_,
    State.reset.hardReset_stationLaw, State.reset.hardReset_channelLaw⟩
  decide

/-- Settles O6: its end acts in hard reset alone, and no event reaches a part that is held in it. -/
theorem endOfHardReset : Obligations.EndOfHardReset := by
  refine ⟨fun code role flowin ssn s reset => ?_, fun code role flowin ssn s running => ?_, fun c s reset hc he => ?_⟩
  · exact congrArg Host.Outcome.next (if_pos reset)
  · exact congrArg Host.Outcome.next (if_neg (by simp [running]))
  · obtain ⟨f, hf, -⟩ := exec_eq_event hc he s
    rw [hf, State.event_of_reset reset]

end Sys2Proof.Machine
end
